-- ==== Sys2Proof/Word.lean ====
section
/-! DEFINITION. The word types of the TSC691E: 32-bit words and addresses (00_scope.md R9, R12), bytes,
address space identifiers (R9) and the 5-bit register numbers of the instruction formats (30_encoding.md R94). -/

namespace Sys2Proof

/-- A 32-bit register value, address or instruction word (R9). -/
abbrev Word := BitVec 32

/-- One byte of memory (R60). -/
abbrev Byte := BitVec 8

/-- An 8-bit address space identifier (R71). -/
abbrev Asi := BitVec 8

/-- A 5-bit register number (R94): an r, f or c register, as the instruction says. -/
abbrev Reg := BitVec 5

end Sys2Proof
end

