-- ==== Sys2Proof/Syntax.lean ====
section
/-! DEFINITION. The instructions of the TSC691E: one constructor for each row of spec/opcode_table.json, with the
fields the encoding gives it (30_encoding.md R91 to R94, R97 to R105). A field the instruction ignores (R106) is no
argument. -/

namespace Sys2Proof

/-- The second operand of a format 3 instruction (R17, R93): `i = 0` names r[rs2], `i = 1` holds simm13. -/
inductive Operand2 where
  | reg (rs2 : Reg)
  | imm (simm13 : BitVec 13)
deriving DecidableEq, Repr

/-- The shift count operand (R96, R220): `i = 0` names r[rs2], `i = 1` holds instruction bits 4:0. -/
inductive ShiftCount where
  | reg (rs2 : Reg)
  | imm (shcnt : BitVec 5)
deriving DecidableEq, Repr

/-- Why an instruction word is reserved (R107, R108); each raises illegal_instruction. -/
inductive Illegal where
  /-- op = 00 with op2 = 001, 011 or 101 (R98). -/
  | reservedOp2 (op2 : BitVec 3)
  /-- op = 10 or 11 with a reserved op3 (R99, R100). -/
  | reservedOp3 (op : BitVec 2) (op3 : BitVec 6)
  /-- An alternate-space instruction with i = 1 (R107). -/
  | alternateImmediate (op3 : BitVec 6)
deriving DecidableEq, Repr

/-- An instruction. In the floating-point and coprocessor forms `rd`, `rs1` and `rs2` name f or c registers where the
instruction does (R94, R160). `fpop1` and `fpop2` are the FPops whose opf names no operation of R104 or R105. -/
inductive Instr where
  /-- CALL (R259). -/
  | call (disp30 : BitVec 30)
  /-- UNIMP (R320). -/
  | unimp (const22 : BitVec 22)
  /-- SETHI (R226). -/
  | sethi (rd : Reg) (imm22 : BitVec 22)
  /-- NOP (R227). -/
  | nop
  /-- PFCHECK (R393). -/
  | pfcheck (sig : BitVec 16)
  /-- BN (R247). -/
  | bn (a : Bool) (disp22 : BitVec 22)
  /-- BE (R247). -/
  | be (a : Bool) (disp22 : BitVec 22)
  /-- BLE (R247). -/
  | ble (a : Bool) (disp22 : BitVec 22)
  /-- BL (R247). -/
  | bl (a : Bool) (disp22 : BitVec 22)
  /-- BLEU (R247). -/
  | bleu (a : Bool) (disp22 : BitVec 22)
  /-- BCS (R247). -/
  | bcs (a : Bool) (disp22 : BitVec 22)
  /-- BNEG (R247). -/
  | bneg (a : Bool) (disp22 : BitVec 22)
  /-- BVS (R247). -/
  | bvs (a : Bool) (disp22 : BitVec 22)
  /-- BA (R247). -/
  | ba (a : Bool) (disp22 : BitVec 22)
  /-- BNE (R247). -/
  | bne (a : Bool) (disp22 : BitVec 22)
  /-- BG (R247). -/
  | bg (a : Bool) (disp22 : BitVec 22)
  /-- BGE (R247). -/
  | bge (a : Bool) (disp22 : BitVec 22)
  /-- BGU (R247). -/
  | bgu (a : Bool) (disp22 : BitVec 22)
  /-- BCC (R247). -/
  | bcc (a : Bool) (disp22 : BitVec 22)
  /-- BPOS (R247). -/
  | bpos (a : Bool) (disp22 : BitVec 22)
  /-- BVC (R247). -/
  | bvc (a : Bool) (disp22 : BitVec 22)
  /-- FBN (R251). -/
  | fbn (a : Bool) (disp22 : BitVec 22)
  /-- FBNE (R251). -/
  | fbne (a : Bool) (disp22 : BitVec 22)
  /-- FBLG (R251). -/
  | fblg (a : Bool) (disp22 : BitVec 22)
  /-- FBUL (R251). -/
  | fbul (a : Bool) (disp22 : BitVec 22)
  /-- FBL (R251). -/
  | fbl (a : Bool) (disp22 : BitVec 22)
  /-- FBUG (R251). -/
  | fbug (a : Bool) (disp22 : BitVec 22)
  /-- FBG (R251). -/
  | fbg (a : Bool) (disp22 : BitVec 22)
  /-- FBU (R251). -/
  | fbu (a : Bool) (disp22 : BitVec 22)
  /-- FBA (R251). -/
  | fba (a : Bool) (disp22 : BitVec 22)
  /-- FBE (R251). -/
  | fbe (a : Bool) (disp22 : BitVec 22)
  /-- FBUE (R251). -/
  | fbue (a : Bool) (disp22 : BitVec 22)
  /-- FBGE (R251). -/
  | fbge (a : Bool) (disp22 : BitVec 22)
  /-- FBUGE (R251). -/
  | fbuge (a : Bool) (disp22 : BitVec 22)
  /-- FBLE (R251). -/
  | fble (a : Bool) (disp22 : BitVec 22)
  /-- FBULE (R251). -/
  | fbule (a : Bool) (disp22 : BitVec 22)
  /-- FBO (R251). -/
  | fbo (a : Bool) (disp22 : BitVec 22)
  /-- CBN (R254). -/
  | cbn (a : Bool) (disp22 : BitVec 22)
  /-- CB123 (R254). -/
  | cb123 (a : Bool) (disp22 : BitVec 22)
  /-- CB12 (R254). -/
  | cb12 (a : Bool) (disp22 : BitVec 22)
  /-- CB13 (R254). -/
  | cb13 (a : Bool) (disp22 : BitVec 22)
  /-- CB1 (R254). -/
  | cb1 (a : Bool) (disp22 : BitVec 22)
  /-- CB23 (R254). -/
  | cb23 (a : Bool) (disp22 : BitVec 22)
  /-- CB2 (R254). -/
  | cb2 (a : Bool) (disp22 : BitVec 22)
  /-- CB3 (R254). -/
  | cb3 (a : Bool) (disp22 : BitVec 22)
  /-- CBA (R254). -/
  | cba (a : Bool) (disp22 : BitVec 22)
  /-- CB0 (R254). -/
  | cb0 (a : Bool) (disp22 : BitVec 22)
  /-- CB03 (R254). -/
  | cb03 (a : Bool) (disp22 : BitVec 22)
  /-- CB02 (R254). -/
  | cb02 (a : Bool) (disp22 : BitVec 22)
  /-- CB023 (R254). -/
  | cb023 (a : Bool) (disp22 : BitVec 22)
  /-- CB01 (R254). -/
  | cb01 (a : Bool) (disp22 : BitVec 22)
  /-- CB013 (R254). -/
  | cb013 (a : Bool) (disp22 : BitVec 22)
  /-- CB012 (R254). -/
  | cb012 (a : Bool) (disp22 : BitVec 22)
  /-- ADD (R195). -/
  | add (rd : Reg) (rs1 : Reg) (o2 : Operand2)
  /-- AND (R208). -/
  | and (rd : Reg) (rs1 : Reg) (o2 : Operand2)
  /-- OR (R212). -/
  | or (rd : Reg) (rs1 : Reg) (o2 : Operand2)
  /-- XOR (R216). -/
  | xor (rd : Reg) (rs1 : Reg) (o2 : Operand2)
  /-- SUB (R199). -/
  | sub (rd : Reg) (rs1 : Reg) (o2 : Operand2)
  /-- ANDN (R210). -/
  | andn (rd : Reg) (rs1 : Reg) (o2 : Operand2)
  /-- ORN (R214). -/
  | orn (rd : Reg) (rs1 : Reg) (o2 : Operand2)
  /-- XNOR (R218). -/
  | xnor (rd : Reg) (rs1 : Reg) (o2 : Operand2)
  /-- ADDX (R197). -/
  | addx (rd : Reg) (rs1 : Reg) (o2 : Operand2)
  /-- SUBX (R201). -/
  | subx (rd : Reg) (rs1 : Reg) (o2 : Operand2)
  /-- ADDcc (R196). -/
  | addcc (rd : Reg) (rs1 : Reg) (o2 : Operand2)
  /-- ANDcc (R209). -/
  | andcc (rd : Reg) (rs1 : Reg) (o2 : Operand2)
  /-- ORcc (R213). -/
  | orcc (rd : Reg) (rs1 : Reg) (o2 : Operand2)
  /-- XORcc (R217). -/
  | xorcc (rd : Reg) (rs1 : Reg) (o2 : Operand2)
  /-- SUBcc (R200). -/
  | subcc (rd : Reg) (rs1 : Reg) (o2 : Operand2)
  /-- ANDNcc (R211). -/
  | andncc (rd : Reg) (rs1 : Reg) (o2 : Operand2)
  /-- ORNcc (R215). -/
  | orncc (rd : Reg) (rs1 : Reg) (o2 : Operand2)
  /-- XNORcc (R219). -/
  | xnorcc (rd : Reg) (rs1 : Reg) (o2 : Operand2)
  /-- ADDXcc (R198). -/
  | addxcc (rd : Reg) (rs1 : Reg) (o2 : Operand2)
  /-- SUBXcc (R202). -/
  | subxcc (rd : Reg) (rs1 : Reg) (o2 : Operand2)
  /-- TADDcc (R203). -/
  | taddcc (rd : Reg) (rs1 : Reg) (o2 : Operand2)
  /-- TSUBcc (R205). -/
  | tsubcc (rd : Reg) (rs1 : Reg) (o2 : Operand2)
  /-- TADDccTV (R204). -/
  | taddcctv (rd : Reg) (rs1 : Reg) (o2 : Operand2)
  /-- TSUBccTV (R206). -/
  | tsubcctv (rd : Reg) (rs1 : Reg) (o2 : Operand2)
  /-- MULScc (R207). -/
  | mulscc (rd : Reg) (rs1 : Reg) (o2 : Operand2)
  /-- SLL (R221). -/
  | sll (rd : Reg) (rs1 : Reg) (cnt : ShiftCount)
  /-- SRL (R222). -/
  | srl (rd : Reg) (rs1 : Reg) (cnt : ShiftCount)
  /-- SRA (R223). -/
  | sra (rd : Reg) (rs1 : Reg) (cnt : ShiftCount)
  /-- RDY (R285). -/
  | rdy (rd : Reg)
  /-- RDPSR (R282). -/
  | rdpsr (rd : Reg)
  /-- RDWIM (R283). -/
  | rdwim (rd : Reg)
  /-- RDTBR (R284). -/
  | rdtbr (rd : Reg)
  /-- WRY (R291). -/
  | wry (rs1 : Reg) (o2 : Operand2)
  /-- WRPSR (R286). -/
  | wrpsr (rs1 : Reg) (o2 : Operand2)
  /-- WRWIM (R289). -/
  | wrwim (rs1 : Reg) (o2 : Operand2)
  /-- WRTBR (R290). -/
  | wrtbr (rs1 : Reg) (o2 : Operand2)
  /-- FMOVs (R302). -/
  | fmovs (rd : Reg) (rs2 : Reg)
  /-- FNEGs (R302). -/
  | fnegs (rd : Reg) (rs2 : Reg)
  /-- FABSs (R302). -/
  | fabss (rd : Reg) (rs2 : Reg)
  /-- FSQRTs (R302). -/
  | fsqrts (rd : Reg) (rs2 : Reg)
  /-- FSQRTd (R302). -/
  | fsqrtd (rd : Reg) (rs2 : Reg)
  /-- FSQRTx (R302). -/
  | fsqrtx (rd : Reg) (rs2 : Reg)
  /-- FADDs (R302). -/
  | fadds (rd : Reg) (rs1 : Reg) (rs2 : Reg)
  /-- FADDd (R302). -/
  | faddd (rd : Reg) (rs1 : Reg) (rs2 : Reg)
  /-- FADDx (R302). -/
  | faddx (rd : Reg) (rs1 : Reg) (rs2 : Reg)
  /-- FSUBs (R302). -/
  | fsubs (rd : Reg) (rs1 : Reg) (rs2 : Reg)
  /-- FSUBd (R302). -/
  | fsubd (rd : Reg) (rs1 : Reg) (rs2 : Reg)
  /-- FSUBx (R302). -/
  | fsubx (rd : Reg) (rs1 : Reg) (rs2 : Reg)
  /-- FMULs (R302). -/
  | fmuls (rd : Reg) (rs1 : Reg) (rs2 : Reg)
  /-- FMULd (R302). -/
  | fmuld (rd : Reg) (rs1 : Reg) (rs2 : Reg)
  /-- FMULx (R302). -/
  | fmulx (rd : Reg) (rs1 : Reg) (rs2 : Reg)
  /-- FDIVs (R302). -/
  | fdivs (rd : Reg) (rs1 : Reg) (rs2 : Reg)
  /-- FDIVd (R302). -/
  | fdivd (rd : Reg) (rs1 : Reg) (rs2 : Reg)
  /-- FDIVx (R302). -/
  | fdivx (rd : Reg) (rs1 : Reg) (rs2 : Reg)
  /-- FiTOs (R302). -/
  | fitos (rd : Reg) (rs2 : Reg)
  /-- FdTOs (R302). -/
  | fdtos (rd : Reg) (rs2 : Reg)
  /-- FxTOs (R302). -/
  | fxtos (rd : Reg) (rs2 : Reg)
  /-- FiTOd (R302). -/
  | fitod (rd : Reg) (rs2 : Reg)
  /-- FsTOd (R302). -/
  | fstod (rd : Reg) (rs2 : Reg)
  /-- FxTOd (R302). -/
  | fxtod (rd : Reg) (rs2 : Reg)
  /-- FiTOx (R302). -/
  | fitox (rd : Reg) (rs2 : Reg)
  /-- FsTOx (R302). -/
  | fstox (rd : Reg) (rs2 : Reg)
  /-- FdTOx (R302). -/
  | fdtox (rd : Reg) (rs2 : Reg)
  /-- FsTOi (R302). -/
  | fstoi (rd : Reg) (rs2 : Reg)
  /-- FdTOi (R302). -/
  | fdtoi (rd : Reg) (rs2 : Reg)
  /-- FxTOi (R302). -/
  | fxtoi (rd : Reg) (rs2 : Reg)
  /-- FCMPs (R302). -/
  | fcmps (rs1 : Reg) (rs2 : Reg)
  /-- FCMPd (R302). -/
  | fcmpd (rs1 : Reg) (rs2 : Reg)
  /-- FCMPx (R302). -/
  | fcmpx (rs1 : Reg) (rs2 : Reg)
  /-- FCMPEs (R302). -/
  | fcmpes (rs1 : Reg) (rs2 : Reg)
  /-- FCMPEd (R302). -/
  | fcmped (rs1 : Reg) (rs2 : Reg)
  /-- FCMPEx (R302). -/
  | fcmpex (rs1 : Reg) (rs2 : Reg)
  /-- FPop1 (R302). -/
  | fpop1 (rd : Reg) (rs1 : Reg) (opf : BitVec 9) (rs2 : Reg)
  /-- FPop2 (R302). -/
  | fpop2 (rd : Reg) (rs1 : Reg) (opf : BitVec 9) (rs2 : Reg)
  /-- CPop1 (R307). -/
  | cpop1 (rd : Reg) (rs1 : Reg) (opc : BitVec 9) (rs2 : Reg)
  /-- CPop2 (R308). -/
  | cpop2 (rd : Reg) (rs1 : Reg) (opc : BitVec 9) (rs2 : Reg)
  /-- JMPL (R261). -/
  | jmpl (rd : Reg) (rs1 : Reg) (o2 : Operand2)
  /-- RETT (R263). -/
  | rett (rs1 : Reg) (o2 : Operand2)
  /-- TN (R266). -/
  | tn (rs1 : Reg) (o2 : Operand2)
  /-- TE (R266). -/
  | te (rs1 : Reg) (o2 : Operand2)
  /-- TLE (R266). -/
  | tle (rs1 : Reg) (o2 : Operand2)
  /-- TL (R266). -/
  | tl (rs1 : Reg) (o2 : Operand2)
  /-- TLEU (R266). -/
  | tleu (rs1 : Reg) (o2 : Operand2)
  /-- TCS (R266). -/
  | tcs (rs1 : Reg) (o2 : Operand2)
  /-- TNEG (R266). -/
  | tneg (rs1 : Reg) (o2 : Operand2)
  /-- TVS (R266). -/
  | tvs (rs1 : Reg) (o2 : Operand2)
  /-- TA (R266). -/
  | ta (rs1 : Reg) (o2 : Operand2)
  /-- TNE (R266). -/
  | tne (rs1 : Reg) (o2 : Operand2)
  /-- TG (R266). -/
  | tg (rs1 : Reg) (o2 : Operand2)
  /-- TGE (R266). -/
  | tge (rs1 : Reg) (o2 : Operand2)
  /-- TGU (R266). -/
  | tgu (rs1 : Reg) (o2 : Operand2)
  /-- TCC (R266). -/
  | tcc (rs1 : Reg) (o2 : Operand2)
  /-- TPOS (R266). -/
  | tpos (rs1 : Reg) (o2 : Operand2)
  /-- TVC (R266). -/
  | tvc (rs1 : Reg) (o2 : Operand2)
  /-- IFLUSH (R322). -/
  | iflush (rs1 : Reg) (o2 : Operand2)
  /-- SAVE (R268). -/
  | save (rd : Reg) (rs1 : Reg) (o2 : Operand2)
  /-- RESTORE (R269). -/
  | restore (rd : Reg) (rs1 : Reg) (o2 : Operand2)
  /-- LD (R131). -/
  | ld (rd : Reg) (rs1 : Reg) (o2 : Operand2)
  /-- LDUB (R129). -/
  | ldub (rd : Reg) (rs1 : Reg) (o2 : Operand2)
  /-- LDUH (R130). -/
  | lduh (rd : Reg) (rs1 : Reg) (o2 : Operand2)
  /-- LDD (R132). -/
  | ldd (rd : Reg) (rs1 : Reg) (o2 : Operand2)
  /-- ST (R135). -/
  | st (rd : Reg) (rs1 : Reg) (o2 : Operand2)
  /-- STB (R133). -/
  | stb (rd : Reg) (rs1 : Reg) (o2 : Operand2)
  /-- STH (R134). -/
  | sth (rd : Reg) (rs1 : Reg) (o2 : Operand2)
  /-- STD (R136). -/
  | std (rd : Reg) (rs1 : Reg) (o2 : Operand2)
  /-- LDSB (R127). -/
  | ldsb (rd : Reg) (rs1 : Reg) (o2 : Operand2)
  /-- LDSH (R128). -/
  | ldsh (rd : Reg) (rs1 : Reg) (o2 : Operand2)
  /-- LDSTUB (R137). -/
  | ldstub (rd : Reg) (rs1 : Reg) (o2 : Operand2)
  /-- SWAP (R138). -/
  | swap (rd : Reg) (rs1 : Reg) (o2 : Operand2)
  /-- LDA (R144). -/
  | lda (rd : Reg) (rs1 : Reg) (rs2 : Reg) (asi : Asi)
  /-- LDUBA (R142). -/
  | lduba (rd : Reg) (rs1 : Reg) (rs2 : Reg) (asi : Asi)
  /-- LDUHA (R143). -/
  | lduha (rd : Reg) (rs1 : Reg) (rs2 : Reg) (asi : Asi)
  /-- LDDA (R145). -/
  | ldda (rd : Reg) (rs1 : Reg) (rs2 : Reg) (asi : Asi)
  /-- STA (R148). -/
  | sta (rd : Reg) (rs1 : Reg) (rs2 : Reg) (asi : Asi)
  /-- STBA (R146). -/
  | stba (rd : Reg) (rs1 : Reg) (rs2 : Reg) (asi : Asi)
  /-- STHA (R147). -/
  | stha (rd : Reg) (rs1 : Reg) (rs2 : Reg) (asi : Asi)
  /-- STDA (R149). -/
  | stda (rd : Reg) (rs1 : Reg) (rs2 : Reg) (asi : Asi)
  /-- LDSBA (R140). -/
  | ldsba (rd : Reg) (rs1 : Reg) (rs2 : Reg) (asi : Asi)
  /-- LDSHA (R141). -/
  | ldsha (rd : Reg) (rs1 : Reg) (rs2 : Reg) (asi : Asi)
  /-- LDSTUBA (R150). -/
  | ldstuba (rd : Reg) (rs1 : Reg) (rs2 : Reg) (asi : Asi)
  /-- SWAPA (R151). -/
  | swapa (rd : Reg) (rs1 : Reg) (rs2 : Reg) (asi : Asi)
  /-- LDF (R164). -/
  | ldf (rd : Reg) (rs1 : Reg) (o2 : Operand2)
  /-- LDFSR (R166). -/
  | ldfsr (rs1 : Reg) (o2 : Operand2)
  /-- LDDF (R165). -/
  | lddf (rd : Reg) (rs1 : Reg) (o2 : Operand2)
  /-- STF (R167). -/
  | stf (rd : Reg) (rs1 : Reg) (o2 : Operand2)
  /-- STFSR (R169). -/
  | stfsr (rs1 : Reg) (o2 : Operand2)
  /-- STDFQ (R170). -/
  | stdfq (rs1 : Reg) (o2 : Operand2)
  /-- STDF (R168). -/
  | stdf (rd : Reg) (rs1 : Reg) (o2 : Operand2)
  /-- LDC (R172). -/
  | ldc (rd : Reg) (rs1 : Reg) (o2 : Operand2)
  /-- LDCSR (R174). -/
  | ldcsr (rs1 : Reg) (o2 : Operand2)
  /-- LDDC (R173). -/
  | lddc (rd : Reg) (rs1 : Reg) (o2 : Operand2)
  /-- STC (R175). -/
  | stc (rd : Reg) (rs1 : Reg) (o2 : Operand2)
  /-- STCSR (R177). -/
  | stcsr (rs1 : Reg) (o2 : Operand2)
  /-- STDCQ (R178). -/
  | stdcq (rs1 : Reg) (o2 : Operand2)
  /-- STDC (R176). -/
  | stdc (rd : Reg) (rs1 : Reg) (o2 : Operand2)
deriving DecidableEq, Repr

end Sys2Proof
end

