-- ==== Sys2Proof/WellFormed.lean ====
section
/-! DEFINITION. Which instructions are well formed: those an instruction word can stand for. The fields' widths say all
but three things: the SETHI words that are NOP or PFCHECK have constructors of their own (R110), and so have the FPops
whose opf names an operation (R104, R105). -/

namespace Sys2Proof

/-- The SETHI word is the NOP (R227). -/
def isNopField (rd : Reg) (imm22 : BitVec 22) : Bool := rd == 0#5 && imm22 == 0#22

/-- The SETHI word is the program-flow-control check (R393). -/
def isCheckField (rd : Reg) (imm22 : BitVec 22) : Bool := rd == 0#5 && imm22.extractLsb' 16 6 == 0b011111#6

/-- The opf codes of FPop1 with a constructor of their own (R104). -/
def namedFpop1 : List (BitVec 9) :=
  [0b000000001#9, 0b000000101#9, 0b000001001#9, 0b000101001#9, 0b000101010#9, 0b000101011#9,
   0b001000001#9, 0b001000010#9, 0b001000011#9, 0b001000101#9, 0b001000110#9, 0b001000111#9,
   0b001001001#9, 0b001001010#9, 0b001001011#9, 0b001001101#9, 0b001001110#9, 0b001001111#9,
   0b011000100#9, 0b011000110#9, 0b011000111#9, 0b011001000#9, 0b011001001#9, 0b011001011#9,
   0b011001100#9, 0b011001101#9, 0b011001110#9, 0b011010001#9, 0b011010010#9, 0b011010011#9]

/-- The opf codes of FPop2 with a constructor of their own (R105). -/
def namedFpop2 : List (BitVec 9) :=
  [0b001010001#9, 0b001010010#9, 0b001010011#9, 0b001010101#9, 0b001010110#9, 0b001010111#9]

/-- Well-formedness of an instruction. -/
def Instr.wellFormed : Instr → Bool
  | .call _ => true
  | .unimp _ => true
  | .sethi rd imm22 => !isNopField rd imm22 && !isCheckField rd imm22
  | .nop => true
  | .pfcheck _ => true
  | .bn _ _ => true
  | .be _ _ => true
  | .ble _ _ => true
  | .bl _ _ => true
  | .bleu _ _ => true
  | .bcs _ _ => true
  | .bneg _ _ => true
  | .bvs _ _ => true
  | .ba _ _ => true
  | .bne _ _ => true
  | .bg _ _ => true
  | .bge _ _ => true
  | .bgu _ _ => true
  | .bcc _ _ => true
  | .bpos _ _ => true
  | .bvc _ _ => true
  | .fbn _ _ => true
  | .fbne _ _ => true
  | .fblg _ _ => true
  | .fbul _ _ => true
  | .fbl _ _ => true
  | .fbug _ _ => true
  | .fbg _ _ => true
  | .fbu _ _ => true
  | .fba _ _ => true
  | .fbe _ _ => true
  | .fbue _ _ => true
  | .fbge _ _ => true
  | .fbuge _ _ => true
  | .fble _ _ => true
  | .fbule _ _ => true
  | .fbo _ _ => true
  | .cbn _ _ => true
  | .cb123 _ _ => true
  | .cb12 _ _ => true
  | .cb13 _ _ => true
  | .cb1 _ _ => true
  | .cb23 _ _ => true
  | .cb2 _ _ => true
  | .cb3 _ _ => true
  | .cba _ _ => true
  | .cb0 _ _ => true
  | .cb03 _ _ => true
  | .cb02 _ _ => true
  | .cb023 _ _ => true
  | .cb01 _ _ => true
  | .cb013 _ _ => true
  | .cb012 _ _ => true
  | .add _ _ _ => true
  | .and _ _ _ => true
  | .or _ _ _ => true
  | .xor _ _ _ => true
  | .sub _ _ _ => true
  | .andn _ _ _ => true
  | .orn _ _ _ => true
  | .xnor _ _ _ => true
  | .addx _ _ _ => true
  | .subx _ _ _ => true
  | .addcc _ _ _ => true
  | .andcc _ _ _ => true
  | .orcc _ _ _ => true
  | .xorcc _ _ _ => true
  | .subcc _ _ _ => true
  | .andncc _ _ _ => true
  | .orncc _ _ _ => true
  | .xnorcc _ _ _ => true
  | .addxcc _ _ _ => true
  | .subxcc _ _ _ => true
  | .taddcc _ _ _ => true
  | .tsubcc _ _ _ => true
  | .taddcctv _ _ _ => true
  | .tsubcctv _ _ _ => true
  | .mulscc _ _ _ => true
  | .sll _ _ _ => true
  | .srl _ _ _ => true
  | .sra _ _ _ => true
  | .rdy _ => true
  | .rdpsr _ => true
  | .rdwim _ => true
  | .rdtbr _ => true
  | .wry _ _ => true
  | .wrpsr _ _ => true
  | .wrwim _ _ => true
  | .wrtbr _ _ => true
  | .fmovs _ _ => true
  | .fnegs _ _ => true
  | .fabss _ _ => true
  | .fsqrts _ _ => true
  | .fsqrtd _ _ => true
  | .fsqrtx _ _ => true
  | .fadds _ _ _ => true
  | .faddd _ _ _ => true
  | .faddx _ _ _ => true
  | .fsubs _ _ _ => true
  | .fsubd _ _ _ => true
  | .fsubx _ _ _ => true
  | .fmuls _ _ _ => true
  | .fmuld _ _ _ => true
  | .fmulx _ _ _ => true
  | .fdivs _ _ _ => true
  | .fdivd _ _ _ => true
  | .fdivx _ _ _ => true
  | .fitos _ _ => true
  | .fdtos _ _ => true
  | .fxtos _ _ => true
  | .fitod _ _ => true
  | .fstod _ _ => true
  | .fxtod _ _ => true
  | .fitox _ _ => true
  | .fstox _ _ => true
  | .fdtox _ _ => true
  | .fstoi _ _ => true
  | .fdtoi _ _ => true
  | .fxtoi _ _ => true
  | .fcmps _ _ => true
  | .fcmpd _ _ => true
  | .fcmpx _ _ => true
  | .fcmpes _ _ => true
  | .fcmped _ _ => true
  | .fcmpex _ _ => true
  | .fpop1 _ _ opf _ => !namedFpop1.contains opf
  | .fpop2 _ _ opf _ => !namedFpop2.contains opf
  | .cpop1 _ _ _ _ => true
  | .cpop2 _ _ _ _ => true
  | .jmpl _ _ _ => true
  | .rett _ _ => true
  | .tn _ _ => true
  | .te _ _ => true
  | .tle _ _ => true
  | .tl _ _ => true
  | .tleu _ _ => true
  | .tcs _ _ => true
  | .tneg _ _ => true
  | .tvs _ _ => true
  | .ta _ _ => true
  | .tne _ _ => true
  | .tg _ _ => true
  | .tge _ _ => true
  | .tgu _ _ => true
  | .tcc _ _ => true
  | .tpos _ _ => true
  | .tvc _ _ => true
  | .iflush _ _ => true
  | .save _ _ _ => true
  | .restore _ _ _ => true
  | .ld _ _ _ => true
  | .ldub _ _ _ => true
  | .lduh _ _ _ => true
  | .ldd _ _ _ => true
  | .st _ _ _ => true
  | .stb _ _ _ => true
  | .sth _ _ _ => true
  | .std _ _ _ => true
  | .ldsb _ _ _ => true
  | .ldsh _ _ _ => true
  | .ldstub _ _ _ => true
  | .swap _ _ _ => true
  | .lda _ _ _ _ => true
  | .lduba _ _ _ _ => true
  | .lduha _ _ _ _ => true
  | .ldda _ _ _ _ => true
  | .sta _ _ _ _ => true
  | .stba _ _ _ _ => true
  | .stha _ _ _ _ => true
  | .stda _ _ _ _ => true
  | .ldsba _ _ _ _ => true
  | .ldsha _ _ _ _ => true
  | .ldstuba _ _ _ _ => true
  | .swapa _ _ _ _ => true
  | .ldf _ _ _ => true
  | .ldfsr _ _ => true
  | .lddf _ _ _ => true
  | .stf _ _ _ => true
  | .stfsr _ _ => true
  | .stdfq _ _ => true
  | .stdf _ _ _ => true
  | .ldc _ _ _ => true
  | .ldcsr _ _ => true
  | .lddc _ _ _ => true
  | .stc _ _ _ => true
  | .stcsr _ _ => true
  | .stdcq _ _ => true
  | .stdc _ _ _ => true

end Sys2Proof
end

