-- ==== Sys2Proof/Decode.lean ====
section
/-! DEFINITION. The decoder, total on words and bytes, rejecting every reserved encoding by name (30_encoding.md R91 to
R109), and after it the encoder, from the same tables. -/

namespace Sys2Proof

/-! ### The fields of an instruction word (R91 to R94) -/

/-- op, bits 31:30. -/
def opField (w : Word) : BitVec 2 := w.extractLsb' 30 2
/-- op2, bits 24:22. -/
def op2Field (w : Word) : BitVec 3 := w.extractLsb' 22 3
/-- op3, bits 24:19. -/
def op3Field (w : Word) : BitVec 6 := w.extractLsb' 19 6
/-- rd, bits 29:25. -/
def rdField (w : Word) : Reg := w.extractLsb' 25 5
/-- rs1, bits 18:14. -/
def rs1Field (w : Word) : Reg := w.extractLsb' 14 5
/-- rs2, bits 4:0. -/
def rs2Field (w : Word) : Reg := w.extractLsb' 0 5
/-- i, bit 13. -/
def iField (w : Word) : Bool := w.getLsbD 13
/-- asi, bits 12:5. -/
def asiField (w : Word) : Asi := w.extractLsb' 5 8
/-- simm13, bits 12:0. -/
def simm13Field (w : Word) : BitVec 13 := w.extractLsb' 0 13
/-- opf or opc, bits 13:5. -/
def opfField (w : Word) : BitVec 9 := w.extractLsb' 5 9
/-- cond, bits 28:25. -/
def condField (w : Word) : BitVec 4 := w.extractLsb' 25 4
/-- a, bit 29. -/
def aField (w : Word) : Bool := w.getLsbD 29
/-- disp22, imm22 or const22, bits 21:0. -/
def low22Field (w : Word) : BitVec 22 := w.extractLsb' 0 22
/-- disp30, bits 29:0. -/
def disp30Field (w : Word) : BitVec 30 := w.extractLsb' 0 30

/-- The second operand that bits 13:0 give (R17). -/
def operand2Field (w : Word) : Operand2 :=
  if iField w then .imm (simm13Field w) else .reg (rs2Field w)

/-- The shift count that bits 13:0 give: bits 12:5 are ignored (R96). -/
def shiftCountField (w : Word) : ShiftCount :=
  if iField w then .imm (rs2Field w) else .reg (rs2Field w)

/-! ### Decoding -/

/-- Bicc by cond (R101). -/
def decodeBicc (w : Word) : Instr :=
  match condField w with
  | 0b0000#4 => .bn (aField w) (low22Field w)
  | 0b0001#4 => .be (aField w) (low22Field w)
  | 0b0010#4 => .ble (aField w) (low22Field w)
  | 0b0011#4 => .bl (aField w) (low22Field w)
  | 0b0100#4 => .bleu (aField w) (low22Field w)
  | 0b0101#4 => .bcs (aField w) (low22Field w)
  | 0b0110#4 => .bneg (aField w) (low22Field w)
  | 0b0111#4 => .bvs (aField w) (low22Field w)
  | 0b1000#4 => .ba (aField w) (low22Field w)
  | 0b1001#4 => .bne (aField w) (low22Field w)
  | 0b1010#4 => .bg (aField w) (low22Field w)
  | 0b1011#4 => .bge (aField w) (low22Field w)
  | 0b1100#4 => .bgu (aField w) (low22Field w)
  | 0b1101#4 => .bcc (aField w) (low22Field w)
  | 0b1110#4 => .bpos (aField w) (low22Field w)
  | _ => .bvc (aField w) (low22Field w)

/-- FBfcc by cond (R102). -/
def decodeFbfcc (w : Word) : Instr :=
  match condField w with
  | 0b0000#4 => .fbn (aField w) (low22Field w)
  | 0b0001#4 => .fbne (aField w) (low22Field w)
  | 0b0010#4 => .fblg (aField w) (low22Field w)
  | 0b0011#4 => .fbul (aField w) (low22Field w)
  | 0b0100#4 => .fbl (aField w) (low22Field w)
  | 0b0101#4 => .fbug (aField w) (low22Field w)
  | 0b0110#4 => .fbg (aField w) (low22Field w)
  | 0b0111#4 => .fbu (aField w) (low22Field w)
  | 0b1000#4 => .fba (aField w) (low22Field w)
  | 0b1001#4 => .fbe (aField w) (low22Field w)
  | 0b1010#4 => .fbue (aField w) (low22Field w)
  | 0b1011#4 => .fbge (aField w) (low22Field w)
  | 0b1100#4 => .fbuge (aField w) (low22Field w)
  | 0b1101#4 => .fble (aField w) (low22Field w)
  | 0b1110#4 => .fbule (aField w) (low22Field w)
  | _ => .fbo (aField w) (low22Field w)

/-- CBccc by cond (R103). -/
def decodeCbccc (w : Word) : Instr :=
  match condField w with
  | 0b0000#4 => .cbn (aField w) (low22Field w)
  | 0b0001#4 => .cb123 (aField w) (low22Field w)
  | 0b0010#4 => .cb12 (aField w) (low22Field w)
  | 0b0011#4 => .cb13 (aField w) (low22Field w)
  | 0b0100#4 => .cb1 (aField w) (low22Field w)
  | 0b0101#4 => .cb23 (aField w) (low22Field w)
  | 0b0110#4 => .cb2 (aField w) (low22Field w)
  | 0b0111#4 => .cb3 (aField w) (low22Field w)
  | 0b1000#4 => .cba (aField w) (low22Field w)
  | 0b1001#4 => .cb0 (aField w) (low22Field w)
  | 0b1010#4 => .cb03 (aField w) (low22Field w)
  | 0b1011#4 => .cb02 (aField w) (low22Field w)
  | 0b1100#4 => .cb023 (aField w) (low22Field w)
  | 0b1101#4 => .cb01 (aField w) (low22Field w)
  | 0b1110#4 => .cb013 (aField w) (low22Field w)
  | _ => .cb012 (aField w) (low22Field w)

/-- Ticc by cond; bit 29 is ignored (R101, R106). -/
def decodeTicc (w : Word) : Instr :=
  match condField w with
  | 0b0000#4 => .tn (rs1Field w) (operand2Field w)
  | 0b0001#4 => .te (rs1Field w) (operand2Field w)
  | 0b0010#4 => .tle (rs1Field w) (operand2Field w)
  | 0b0011#4 => .tl (rs1Field w) (operand2Field w)
  | 0b0100#4 => .tleu (rs1Field w) (operand2Field w)
  | 0b0101#4 => .tcs (rs1Field w) (operand2Field w)
  | 0b0110#4 => .tneg (rs1Field w) (operand2Field w)
  | 0b0111#4 => .tvs (rs1Field w) (operand2Field w)
  | 0b1000#4 => .ta (rs1Field w) (operand2Field w)
  | 0b1001#4 => .tne (rs1Field w) (operand2Field w)
  | 0b1010#4 => .tg (rs1Field w) (operand2Field w)
  | 0b1011#4 => .tge (rs1Field w) (operand2Field w)
  | 0b1100#4 => .tgu (rs1Field w) (operand2Field w)
  | 0b1101#4 => .tcc (rs1Field w) (operand2Field w)
  | 0b1110#4 => .tpos (rs1Field w) (operand2Field w)
  | _ => .tvc (rs1Field w) (operand2Field w)

/-- op2 = 100: NOP, PFCHECK or SETHI (R110). -/
def decodeSethi (w : Word) : Instr :=
  if isNopField (rdField w) (low22Field w) then .nop
  else if isCheckField (rdField w) (low22Field w) then .pfcheck (w.extractLsb' 0 16)
  else .sethi (rdField w) (low22Field w)

/-- op = 00, by op2 (R98). -/
def decodeFormat2 (w : Word) : Except Illegal Instr :=
  match op2Field w with
  | 0b000#3 => .ok (.unimp (low22Field w))
  | 0b010#3 => .ok (decodeBicc w)
  | 0b100#3 => .ok (decodeSethi w)
  | 0b110#3 => .ok (decodeFbfcc w)
  | 0b111#3 => .ok (decodeCbccc w)
  | op2 => .error (.reservedOp2 op2)

/-- FPop1, by opf (R104); rs1 is ignored by the one-operand forms (R106). -/
def decodeFpop1 (w : Word) : Instr :=
  match opfField w with
  | 0b000000001#9 => .fmovs (rdField w) (rs2Field w)
  | 0b000000101#9 => .fnegs (rdField w) (rs2Field w)
  | 0b000001001#9 => .fabss (rdField w) (rs2Field w)
  | 0b000101001#9 => .fsqrts (rdField w) (rs2Field w)
  | 0b000101010#9 => .fsqrtd (rdField w) (rs2Field w)
  | 0b000101011#9 => .fsqrtx (rdField w) (rs2Field w)
  | 0b001000001#9 => .fadds (rdField w) (rs1Field w) (rs2Field w)
  | 0b001000010#9 => .faddd (rdField w) (rs1Field w) (rs2Field w)
  | 0b001000011#9 => .faddx (rdField w) (rs1Field w) (rs2Field w)
  | 0b001000101#9 => .fsubs (rdField w) (rs1Field w) (rs2Field w)
  | 0b001000110#9 => .fsubd (rdField w) (rs1Field w) (rs2Field w)
  | 0b001000111#9 => .fsubx (rdField w) (rs1Field w) (rs2Field w)
  | 0b001001001#9 => .fmuls (rdField w) (rs1Field w) (rs2Field w)
  | 0b001001010#9 => .fmuld (rdField w) (rs1Field w) (rs2Field w)
  | 0b001001011#9 => .fmulx (rdField w) (rs1Field w) (rs2Field w)
  | 0b001001101#9 => .fdivs (rdField w) (rs1Field w) (rs2Field w)
  | 0b001001110#9 => .fdivd (rdField w) (rs1Field w) (rs2Field w)
  | 0b001001111#9 => .fdivx (rdField w) (rs1Field w) (rs2Field w)
  | 0b011000100#9 => .fitos (rdField w) (rs2Field w)
  | 0b011000110#9 => .fdtos (rdField w) (rs2Field w)
  | 0b011000111#9 => .fxtos (rdField w) (rs2Field w)
  | 0b011001000#9 => .fitod (rdField w) (rs2Field w)
  | 0b011001001#9 => .fstod (rdField w) (rs2Field w)
  | 0b011001011#9 => .fxtod (rdField w) (rs2Field w)
  | 0b011001100#9 => .fitox (rdField w) (rs2Field w)
  | 0b011001101#9 => .fstox (rdField w) (rs2Field w)
  | 0b011001110#9 => .fdtox (rdField w) (rs2Field w)
  | 0b011010001#9 => .fstoi (rdField w) (rs2Field w)
  | 0b011010010#9 => .fdtoi (rdField w) (rs2Field w)
  | 0b011010011#9 => .fxtoi (rdField w) (rs2Field w)
  | opf => .fpop1 (rdField w) (rs1Field w) opf (rs2Field w)

/-- FPop2, by opf (R105); rd is ignored by the compares (R106). -/
def decodeFpop2 (w : Word) : Instr :=
  match opfField w with
  | 0b001010001#9 => .fcmps (rs1Field w) (rs2Field w)
  | 0b001010010#9 => .fcmpd (rs1Field w) (rs2Field w)
  | 0b001010011#9 => .fcmpx (rs1Field w) (rs2Field w)
  | 0b001010101#9 => .fcmpes (rs1Field w) (rs2Field w)
  | 0b001010110#9 => .fcmped (rs1Field w) (rs2Field w)
  | 0b001010111#9 => .fcmpex (rs1Field w) (rs2Field w)
  | opf => .fpop2 (rdField w) (rs1Field w) opf (rs2Field w)

/-- op = 10, by op3 (R99). -/
def decodeOperate (w : Word) : Except Illegal Instr :=
  match op3Field w with
  | 0b000000#6 => .ok (.add (rdField w) (rs1Field w) (operand2Field w))
  | 0b000001#6 => .ok (.and (rdField w) (rs1Field w) (operand2Field w))
  | 0b000010#6 => .ok (.or (rdField w) (rs1Field w) (operand2Field w))
  | 0b000011#6 => .ok (.xor (rdField w) (rs1Field w) (operand2Field w))
  | 0b000100#6 => .ok (.sub (rdField w) (rs1Field w) (operand2Field w))
  | 0b000101#6 => .ok (.andn (rdField w) (rs1Field w) (operand2Field w))
  | 0b000110#6 => .ok (.orn (rdField w) (rs1Field w) (operand2Field w))
  | 0b000111#6 => .ok (.xnor (rdField w) (rs1Field w) (operand2Field w))
  | 0b001000#6 => .ok (.addx (rdField w) (rs1Field w) (operand2Field w))
  | 0b001100#6 => .ok (.subx (rdField w) (rs1Field w) (operand2Field w))
  | 0b010000#6 => .ok (.addcc (rdField w) (rs1Field w) (operand2Field w))
  | 0b010001#6 => .ok (.andcc (rdField w) (rs1Field w) (operand2Field w))
  | 0b010010#6 => .ok (.orcc (rdField w) (rs1Field w) (operand2Field w))
  | 0b010011#6 => .ok (.xorcc (rdField w) (rs1Field w) (operand2Field w))
  | 0b010100#6 => .ok (.subcc (rdField w) (rs1Field w) (operand2Field w))
  | 0b010101#6 => .ok (.andncc (rdField w) (rs1Field w) (operand2Field w))
  | 0b010110#6 => .ok (.orncc (rdField w) (rs1Field w) (operand2Field w))
  | 0b010111#6 => .ok (.xnorcc (rdField w) (rs1Field w) (operand2Field w))
  | 0b011000#6 => .ok (.addxcc (rdField w) (rs1Field w) (operand2Field w))
  | 0b011100#6 => .ok (.subxcc (rdField w) (rs1Field w) (operand2Field w))
  | 0b100000#6 => .ok (.taddcc (rdField w) (rs1Field w) (operand2Field w))
  | 0b100001#6 => .ok (.tsubcc (rdField w) (rs1Field w) (operand2Field w))
  | 0b100010#6 => .ok (.taddcctv (rdField w) (rs1Field w) (operand2Field w))
  | 0b100011#6 => .ok (.tsubcctv (rdField w) (rs1Field w) (operand2Field w))
  | 0b100100#6 => .ok (.mulscc (rdField w) (rs1Field w) (operand2Field w))
  | 0b100101#6 => .ok (.sll (rdField w) (rs1Field w) (shiftCountField w))
  | 0b100110#6 => .ok (.srl (rdField w) (rs1Field w) (shiftCountField w))
  | 0b100111#6 => .ok (.sra (rdField w) (rs1Field w) (shiftCountField w))
  | 0b101000#6 => .ok (.rdy (rdField w))
  | 0b101001#6 => .ok (.rdpsr (rdField w))
  | 0b101010#6 => .ok (.rdwim (rdField w))
  | 0b101011#6 => .ok (.rdtbr (rdField w))
  | 0b110000#6 => .ok (.wry (rs1Field w) (operand2Field w))
  | 0b110001#6 => .ok (.wrpsr (rs1Field w) (operand2Field w))
  | 0b110010#6 => .ok (.wrwim (rs1Field w) (operand2Field w))
  | 0b110011#6 => .ok (.wrtbr (rs1Field w) (operand2Field w))
  | 0b110100#6 => .ok (decodeFpop1 w)
  | 0b110101#6 => .ok (decodeFpop2 w)
  | 0b110110#6 => .ok (.cpop1 (rdField w) (rs1Field w) (opfField w) (rs2Field w))
  | 0b110111#6 => .ok (.cpop2 (rdField w) (rs1Field w) (opfField w) (rs2Field w))
  | 0b111000#6 => .ok (.jmpl (rdField w) (rs1Field w) (operand2Field w))
  | 0b111001#6 => .ok (.rett (rs1Field w) (operand2Field w))
  | 0b111010#6 => .ok (decodeTicc w)
  | 0b111011#6 => .ok (.iflush (rs1Field w) (operand2Field w))
  | 0b111100#6 => .ok (.save (rdField w) (rs1Field w) (operand2Field w))
  | 0b111101#6 => .ok (.restore (rdField w) (rs1Field w) (operand2Field w))
  | op3 => .error (.reservedOp3 0b10#2 op3)

/-- An alternate-space instruction: `i` must be 0 (R107). -/
def alternate (w : Word) (mk : Reg → Reg → Reg → Asi → Instr) : Except Illegal Instr :=
  if iField w then .error (.alternateImmediate (op3Field w))
  else .ok (mk (rdField w) (rs1Field w) (rs2Field w) (asiField w))

/-- op = 11, by op3 (R100). -/
def decodeMemory (w : Word) : Except Illegal Instr :=
  match op3Field w with
  | 0b000000#6 => .ok (.ld (rdField w) (rs1Field w) (operand2Field w))
  | 0b000001#6 => .ok (.ldub (rdField w) (rs1Field w) (operand2Field w))
  | 0b000010#6 => .ok (.lduh (rdField w) (rs1Field w) (operand2Field w))
  | 0b000011#6 => .ok (.ldd (rdField w) (rs1Field w) (operand2Field w))
  | 0b000100#6 => .ok (.st (rdField w) (rs1Field w) (operand2Field w))
  | 0b000101#6 => .ok (.stb (rdField w) (rs1Field w) (operand2Field w))
  | 0b000110#6 => .ok (.sth (rdField w) (rs1Field w) (operand2Field w))
  | 0b000111#6 => .ok (.std (rdField w) (rs1Field w) (operand2Field w))
  | 0b001001#6 => .ok (.ldsb (rdField w) (rs1Field w) (operand2Field w))
  | 0b001010#6 => .ok (.ldsh (rdField w) (rs1Field w) (operand2Field w))
  | 0b001101#6 => .ok (.ldstub (rdField w) (rs1Field w) (operand2Field w))
  | 0b001111#6 => .ok (.swap (rdField w) (rs1Field w) (operand2Field w))
  | 0b010000#6 => alternate w .lda
  | 0b010001#6 => alternate w .lduba
  | 0b010010#6 => alternate w .lduha
  | 0b010011#6 => alternate w .ldda
  | 0b010100#6 => alternate w .sta
  | 0b010101#6 => alternate w .stba
  | 0b010110#6 => alternate w .stha
  | 0b010111#6 => alternate w .stda
  | 0b011001#6 => alternate w .ldsba
  | 0b011010#6 => alternate w .ldsha
  | 0b011101#6 => alternate w .ldstuba
  | 0b011111#6 => alternate w .swapa
  | 0b100000#6 => .ok (.ldf (rdField w) (rs1Field w) (operand2Field w))
  | 0b100001#6 => .ok (.ldfsr (rs1Field w) (operand2Field w))
  | 0b100011#6 => .ok (.lddf (rdField w) (rs1Field w) (operand2Field w))
  | 0b100100#6 => .ok (.stf (rdField w) (rs1Field w) (operand2Field w))
  | 0b100101#6 => .ok (.stfsr (rs1Field w) (operand2Field w))
  | 0b100110#6 => .ok (.stdfq (rs1Field w) (operand2Field w))
  | 0b100111#6 => .ok (.stdf (rdField w) (rs1Field w) (operand2Field w))
  | 0b110000#6 => .ok (.ldc (rdField w) (rs1Field w) (operand2Field w))
  | 0b110001#6 => .ok (.ldcsr (rs1Field w) (operand2Field w))
  | 0b110011#6 => .ok (.lddc (rdField w) (rs1Field w) (operand2Field w))
  | 0b110100#6 => .ok (.stc (rdField w) (rs1Field w) (operand2Field w))
  | 0b110101#6 => .ok (.stcsr (rs1Field w) (operand2Field w))
  | 0b110110#6 => .ok (.stdcq (rs1Field w) (operand2Field w))
  | 0b110111#6 => .ok (.stdc (rdField w) (rs1Field w) (operand2Field w))
  | op3 => .error (.reservedOp3 0b11#2 op3)

/-- The instruction a word stands for, by op (R97); a reserved word is rejected by name. -/
def decode (w : Word) : Except Illegal Instr :=
  match opField w with
  | 0b00#2 => decodeFormat2 w
  | 0b01#2 => .ok (.call (disp30Field w))
  | 0b10#2 => decodeOperate w
  | _ => decodeMemory w

/-- The word of four bytes in the order of their addresses: big-endian (R60, R61). -/
def wordOfBytes (b0 b1 b2 b3 : Byte) : Word := b0 ++ b1 ++ b2 ++ b3

/-- The four bytes of a word, the lowest address first (R60). -/
def bytesOfWord (w : Word) : List Byte :=
  [w.extractLsb' 24 8, w.extractLsb' 16 8, w.extractLsb' 8 8, w.extractLsb' 0 8]

/-- Decoding from bytes: the instruction of the first four, with the rest; `none` for fewer than four. -/
def decodeBytes : List Byte → Option (Except Illegal Instr × List Byte)
  | b0 :: b1 :: b2 :: b3 :: rest => some (decode (wordOfBytes b0 b1 b2 b3), rest)
  | _ => none

/-- The instruction of an opcode table row's word: `w` has `nbits` bits, bit 31 of the word being bit 7 of the byte at
the lowest address (R61). -/
def decodeTableWord (nbits w : Nat) : Option Instr :=
  match decodeBytes (bytesOfWord (BitVec.ofNat 32 (w % 2 ^ nbits))) with
  | some (.ok i, _) => some i
  | _ => none

/-! ### Encoding (ignored fields are 0) -/

/-- Bits 13:0 of a second operand (R93). -/
def Operand2.bits : Operand2 → BitVec 14
  | .reg rs2 => 0#1 ++ 0#8 ++ rs2
  | .imm simm13 => 1#1 ++ simm13

/-- Bits 13:0 of a shift count (R96). -/
def ShiftCount.bits : ShiftCount → BitVec 14
  | .reg rs2 => 0#1 ++ 0#8 ++ rs2
  | .imm shcnt => 1#1 ++ 0#8 ++ shcnt

/-- Format 2 with rd (R92). -/
def format2 (rd : Reg) (op2 : BitVec 3) (low : BitVec 22) : Word := 0b00#2 ++ rd ++ op2 ++ low

/-- Format 2 with a and cond (R92). -/
def formatBranch (a : Bool) (cond : BitVec 4) (op2 : BitVec 3) (disp22 : BitVec 22) : Word :=
  0b00#2 ++ BitVec.ofBool a ++ cond ++ op2 ++ disp22

/-- Format 3, with bits 13:0 as one field (R93). -/
def format3 (op : BitVec 2) (rd : Reg) (op3 : BitVec 6) (rs1 : Reg) (tail : BitVec 14) : Word :=
  op ++ rd ++ op3 ++ rs1 ++ tail

/-- Bits 13:0 of an alternate-space instruction (R93). -/
def alternateBits (asi : Asi) (rs2 : Reg) : BitVec 14 := 0#1 ++ asi ++ rs2

/-- Bits 13:0 of an FPop or CPop (R93). -/
def opfBits (opf : BitVec 9) (rs2 : Reg) : BitVec 14 := opf ++ rs2

/-- The instruction word of a well-formed instruction (R91 to R105). -/
def encode : Instr → Word
  | .call disp30 => 0b01#2 ++ disp30
  | .unimp const22 => format2 0#5 0b000#3 const22
  | .sethi rd imm22 => format2 rd 0b100#3 imm22
  | .nop => format2 0#5 0b100#3 0#22
  | .pfcheck sig => format2 0#5 0b100#3 (0b011111#6 ++ sig)
  | .bn a disp22 => formatBranch a 0b0000#4 0b010#3 disp22
  | .be a disp22 => formatBranch a 0b0001#4 0b010#3 disp22
  | .ble a disp22 => formatBranch a 0b0010#4 0b010#3 disp22
  | .bl a disp22 => formatBranch a 0b0011#4 0b010#3 disp22
  | .bleu a disp22 => formatBranch a 0b0100#4 0b010#3 disp22
  | .bcs a disp22 => formatBranch a 0b0101#4 0b010#3 disp22
  | .bneg a disp22 => formatBranch a 0b0110#4 0b010#3 disp22
  | .bvs a disp22 => formatBranch a 0b0111#4 0b010#3 disp22
  | .ba a disp22 => formatBranch a 0b1000#4 0b010#3 disp22
  | .bne a disp22 => formatBranch a 0b1001#4 0b010#3 disp22
  | .bg a disp22 => formatBranch a 0b1010#4 0b010#3 disp22
  | .bge a disp22 => formatBranch a 0b1011#4 0b010#3 disp22
  | .bgu a disp22 => formatBranch a 0b1100#4 0b010#3 disp22
  | .bcc a disp22 => formatBranch a 0b1101#4 0b010#3 disp22
  | .bpos a disp22 => formatBranch a 0b1110#4 0b010#3 disp22
  | .bvc a disp22 => formatBranch a 0b1111#4 0b010#3 disp22
  | .fbn a disp22 => formatBranch a 0b0000#4 0b110#3 disp22
  | .fbne a disp22 => formatBranch a 0b0001#4 0b110#3 disp22
  | .fblg a disp22 => formatBranch a 0b0010#4 0b110#3 disp22
  | .fbul a disp22 => formatBranch a 0b0011#4 0b110#3 disp22
  | .fbl a disp22 => formatBranch a 0b0100#4 0b110#3 disp22
  | .fbug a disp22 => formatBranch a 0b0101#4 0b110#3 disp22
  | .fbg a disp22 => formatBranch a 0b0110#4 0b110#3 disp22
  | .fbu a disp22 => formatBranch a 0b0111#4 0b110#3 disp22
  | .fba a disp22 => formatBranch a 0b1000#4 0b110#3 disp22
  | .fbe a disp22 => formatBranch a 0b1001#4 0b110#3 disp22
  | .fbue a disp22 => formatBranch a 0b1010#4 0b110#3 disp22
  | .fbge a disp22 => formatBranch a 0b1011#4 0b110#3 disp22
  | .fbuge a disp22 => formatBranch a 0b1100#4 0b110#3 disp22
  | .fble a disp22 => formatBranch a 0b1101#4 0b110#3 disp22
  | .fbule a disp22 => formatBranch a 0b1110#4 0b110#3 disp22
  | .fbo a disp22 => formatBranch a 0b1111#4 0b110#3 disp22
  | .cbn a disp22 => formatBranch a 0b0000#4 0b111#3 disp22
  | .cb123 a disp22 => formatBranch a 0b0001#4 0b111#3 disp22
  | .cb12 a disp22 => formatBranch a 0b0010#4 0b111#3 disp22
  | .cb13 a disp22 => formatBranch a 0b0011#4 0b111#3 disp22
  | .cb1 a disp22 => formatBranch a 0b0100#4 0b111#3 disp22
  | .cb23 a disp22 => formatBranch a 0b0101#4 0b111#3 disp22
  | .cb2 a disp22 => formatBranch a 0b0110#4 0b111#3 disp22
  | .cb3 a disp22 => formatBranch a 0b0111#4 0b111#3 disp22
  | .cba a disp22 => formatBranch a 0b1000#4 0b111#3 disp22
  | .cb0 a disp22 => formatBranch a 0b1001#4 0b111#3 disp22
  | .cb03 a disp22 => formatBranch a 0b1010#4 0b111#3 disp22
  | .cb02 a disp22 => formatBranch a 0b1011#4 0b111#3 disp22
  | .cb023 a disp22 => formatBranch a 0b1100#4 0b111#3 disp22
  | .cb01 a disp22 => formatBranch a 0b1101#4 0b111#3 disp22
  | .cb013 a disp22 => formatBranch a 0b1110#4 0b111#3 disp22
  | .cb012 a disp22 => formatBranch a 0b1111#4 0b111#3 disp22
  | .add rd rs1 o2 => format3 0b10#2 rd 0b000000#6 rs1 o2.bits
  | .and rd rs1 o2 => format3 0b10#2 rd 0b000001#6 rs1 o2.bits
  | .or rd rs1 o2 => format3 0b10#2 rd 0b000010#6 rs1 o2.bits
  | .xor rd rs1 o2 => format3 0b10#2 rd 0b000011#6 rs1 o2.bits
  | .sub rd rs1 o2 => format3 0b10#2 rd 0b000100#6 rs1 o2.bits
  | .andn rd rs1 o2 => format3 0b10#2 rd 0b000101#6 rs1 o2.bits
  | .orn rd rs1 o2 => format3 0b10#2 rd 0b000110#6 rs1 o2.bits
  | .xnor rd rs1 o2 => format3 0b10#2 rd 0b000111#6 rs1 o2.bits
  | .addx rd rs1 o2 => format3 0b10#2 rd 0b001000#6 rs1 o2.bits
  | .subx rd rs1 o2 => format3 0b10#2 rd 0b001100#6 rs1 o2.bits
  | .addcc rd rs1 o2 => format3 0b10#2 rd 0b010000#6 rs1 o2.bits
  | .andcc rd rs1 o2 => format3 0b10#2 rd 0b010001#6 rs1 o2.bits
  | .orcc rd rs1 o2 => format3 0b10#2 rd 0b010010#6 rs1 o2.bits
  | .xorcc rd rs1 o2 => format3 0b10#2 rd 0b010011#6 rs1 o2.bits
  | .subcc rd rs1 o2 => format3 0b10#2 rd 0b010100#6 rs1 o2.bits
  | .andncc rd rs1 o2 => format3 0b10#2 rd 0b010101#6 rs1 o2.bits
  | .orncc rd rs1 o2 => format3 0b10#2 rd 0b010110#6 rs1 o2.bits
  | .xnorcc rd rs1 o2 => format3 0b10#2 rd 0b010111#6 rs1 o2.bits
  | .addxcc rd rs1 o2 => format3 0b10#2 rd 0b011000#6 rs1 o2.bits
  | .subxcc rd rs1 o2 => format3 0b10#2 rd 0b011100#6 rs1 o2.bits
  | .taddcc rd rs1 o2 => format3 0b10#2 rd 0b100000#6 rs1 o2.bits
  | .tsubcc rd rs1 o2 => format3 0b10#2 rd 0b100001#6 rs1 o2.bits
  | .taddcctv rd rs1 o2 => format3 0b10#2 rd 0b100010#6 rs1 o2.bits
  | .tsubcctv rd rs1 o2 => format3 0b10#2 rd 0b100011#6 rs1 o2.bits
  | .mulscc rd rs1 o2 => format3 0b10#2 rd 0b100100#6 rs1 o2.bits
  | .sll rd rs1 cnt => format3 0b10#2 rd 0b100101#6 rs1 cnt.bits
  | .srl rd rs1 cnt => format3 0b10#2 rd 0b100110#6 rs1 cnt.bits
  | .sra rd rs1 cnt => format3 0b10#2 rd 0b100111#6 rs1 cnt.bits
  | .rdy rd => format3 0b10#2 rd 0b101000#6 0#5 0#14
  | .rdpsr rd => format3 0b10#2 rd 0b101001#6 0#5 0#14
  | .rdwim rd => format3 0b10#2 rd 0b101010#6 0#5 0#14
  | .rdtbr rd => format3 0b10#2 rd 0b101011#6 0#5 0#14
  | .wry rs1 o2 => format3 0b10#2 0#5 0b110000#6 rs1 o2.bits
  | .wrpsr rs1 o2 => format3 0b10#2 0#5 0b110001#6 rs1 o2.bits
  | .wrwim rs1 o2 => format3 0b10#2 0#5 0b110010#6 rs1 o2.bits
  | .wrtbr rs1 o2 => format3 0b10#2 0#5 0b110011#6 rs1 o2.bits
  | .fmovs rd rs2 => format3 0b10#2 rd 0b110100#6 0#5 (opfBits 0b000000001#9 rs2)
  | .fnegs rd rs2 => format3 0b10#2 rd 0b110100#6 0#5 (opfBits 0b000000101#9 rs2)
  | .fabss rd rs2 => format3 0b10#2 rd 0b110100#6 0#5 (opfBits 0b000001001#9 rs2)
  | .fsqrts rd rs2 => format3 0b10#2 rd 0b110100#6 0#5 (opfBits 0b000101001#9 rs2)
  | .fsqrtd rd rs2 => format3 0b10#2 rd 0b110100#6 0#5 (opfBits 0b000101010#9 rs2)
  | .fsqrtx rd rs2 => format3 0b10#2 rd 0b110100#6 0#5 (opfBits 0b000101011#9 rs2)
  | .fadds rd rs1 rs2 => format3 0b10#2 rd 0b110100#6 rs1 (opfBits 0b001000001#9 rs2)
  | .faddd rd rs1 rs2 => format3 0b10#2 rd 0b110100#6 rs1 (opfBits 0b001000010#9 rs2)
  | .faddx rd rs1 rs2 => format3 0b10#2 rd 0b110100#6 rs1 (opfBits 0b001000011#9 rs2)
  | .fsubs rd rs1 rs2 => format3 0b10#2 rd 0b110100#6 rs1 (opfBits 0b001000101#9 rs2)
  | .fsubd rd rs1 rs2 => format3 0b10#2 rd 0b110100#6 rs1 (opfBits 0b001000110#9 rs2)
  | .fsubx rd rs1 rs2 => format3 0b10#2 rd 0b110100#6 rs1 (opfBits 0b001000111#9 rs2)
  | .fmuls rd rs1 rs2 => format3 0b10#2 rd 0b110100#6 rs1 (opfBits 0b001001001#9 rs2)
  | .fmuld rd rs1 rs2 => format3 0b10#2 rd 0b110100#6 rs1 (opfBits 0b001001010#9 rs2)
  | .fmulx rd rs1 rs2 => format3 0b10#2 rd 0b110100#6 rs1 (opfBits 0b001001011#9 rs2)
  | .fdivs rd rs1 rs2 => format3 0b10#2 rd 0b110100#6 rs1 (opfBits 0b001001101#9 rs2)
  | .fdivd rd rs1 rs2 => format3 0b10#2 rd 0b110100#6 rs1 (opfBits 0b001001110#9 rs2)
  | .fdivx rd rs1 rs2 => format3 0b10#2 rd 0b110100#6 rs1 (opfBits 0b001001111#9 rs2)
  | .fitos rd rs2 => format3 0b10#2 rd 0b110100#6 0#5 (opfBits 0b011000100#9 rs2)
  | .fdtos rd rs2 => format3 0b10#2 rd 0b110100#6 0#5 (opfBits 0b011000110#9 rs2)
  | .fxtos rd rs2 => format3 0b10#2 rd 0b110100#6 0#5 (opfBits 0b011000111#9 rs2)
  | .fitod rd rs2 => format3 0b10#2 rd 0b110100#6 0#5 (opfBits 0b011001000#9 rs2)
  | .fstod rd rs2 => format3 0b10#2 rd 0b110100#6 0#5 (opfBits 0b011001001#9 rs2)
  | .fxtod rd rs2 => format3 0b10#2 rd 0b110100#6 0#5 (opfBits 0b011001011#9 rs2)
  | .fitox rd rs2 => format3 0b10#2 rd 0b110100#6 0#5 (opfBits 0b011001100#9 rs2)
  | .fstox rd rs2 => format3 0b10#2 rd 0b110100#6 0#5 (opfBits 0b011001101#9 rs2)
  | .fdtox rd rs2 => format3 0b10#2 rd 0b110100#6 0#5 (opfBits 0b011001110#9 rs2)
  | .fstoi rd rs2 => format3 0b10#2 rd 0b110100#6 0#5 (opfBits 0b011010001#9 rs2)
  | .fdtoi rd rs2 => format3 0b10#2 rd 0b110100#6 0#5 (opfBits 0b011010010#9 rs2)
  | .fxtoi rd rs2 => format3 0b10#2 rd 0b110100#6 0#5 (opfBits 0b011010011#9 rs2)
  | .fcmps rs1 rs2 => format3 0b10#2 0#5 0b110101#6 rs1 (opfBits 0b001010001#9 rs2)
  | .fcmpd rs1 rs2 => format3 0b10#2 0#5 0b110101#6 rs1 (opfBits 0b001010010#9 rs2)
  | .fcmpx rs1 rs2 => format3 0b10#2 0#5 0b110101#6 rs1 (opfBits 0b001010011#9 rs2)
  | .fcmpes rs1 rs2 => format3 0b10#2 0#5 0b110101#6 rs1 (opfBits 0b001010101#9 rs2)
  | .fcmped rs1 rs2 => format3 0b10#2 0#5 0b110101#6 rs1 (opfBits 0b001010110#9 rs2)
  | .fcmpex rs1 rs2 => format3 0b10#2 0#5 0b110101#6 rs1 (opfBits 0b001010111#9 rs2)
  | .fpop1 rd rs1 opf rs2 => format3 0b10#2 rd 0b110100#6 rs1 (opfBits opf rs2)
  | .fpop2 rd rs1 opf rs2 => format3 0b10#2 rd 0b110101#6 rs1 (opfBits opf rs2)
  | .cpop1 rd rs1 opc rs2 => format3 0b10#2 rd 0b110110#6 rs1 (opfBits opc rs2)
  | .cpop2 rd rs1 opc rs2 => format3 0b10#2 rd 0b110111#6 rs1 (opfBits opc rs2)
  | .jmpl rd rs1 o2 => format3 0b10#2 rd 0b111000#6 rs1 o2.bits
  | .rett rs1 o2 => format3 0b10#2 0#5 0b111001#6 rs1 o2.bits
  | .tn rs1 o2 => format3 0b10#2 (0#1 ++ 0b0000#4) 0b111010#6 rs1 o2.bits
  | .te rs1 o2 => format3 0b10#2 (0#1 ++ 0b0001#4) 0b111010#6 rs1 o2.bits
  | .tle rs1 o2 => format3 0b10#2 (0#1 ++ 0b0010#4) 0b111010#6 rs1 o2.bits
  | .tl rs1 o2 => format3 0b10#2 (0#1 ++ 0b0011#4) 0b111010#6 rs1 o2.bits
  | .tleu rs1 o2 => format3 0b10#2 (0#1 ++ 0b0100#4) 0b111010#6 rs1 o2.bits
  | .tcs rs1 o2 => format3 0b10#2 (0#1 ++ 0b0101#4) 0b111010#6 rs1 o2.bits
  | .tneg rs1 o2 => format3 0b10#2 (0#1 ++ 0b0110#4) 0b111010#6 rs1 o2.bits
  | .tvs rs1 o2 => format3 0b10#2 (0#1 ++ 0b0111#4) 0b111010#6 rs1 o2.bits
  | .ta rs1 o2 => format3 0b10#2 (0#1 ++ 0b1000#4) 0b111010#6 rs1 o2.bits
  | .tne rs1 o2 => format3 0b10#2 (0#1 ++ 0b1001#4) 0b111010#6 rs1 o2.bits
  | .tg rs1 o2 => format3 0b10#2 (0#1 ++ 0b1010#4) 0b111010#6 rs1 o2.bits
  | .tge rs1 o2 => format3 0b10#2 (0#1 ++ 0b1011#4) 0b111010#6 rs1 o2.bits
  | .tgu rs1 o2 => format3 0b10#2 (0#1 ++ 0b1100#4) 0b111010#6 rs1 o2.bits
  | .tcc rs1 o2 => format3 0b10#2 (0#1 ++ 0b1101#4) 0b111010#6 rs1 o2.bits
  | .tpos rs1 o2 => format3 0b10#2 (0#1 ++ 0b1110#4) 0b111010#6 rs1 o2.bits
  | .tvc rs1 o2 => format3 0b10#2 (0#1 ++ 0b1111#4) 0b111010#6 rs1 o2.bits
  | .iflush rs1 o2 => format3 0b10#2 0#5 0b111011#6 rs1 o2.bits
  | .save rd rs1 o2 => format3 0b10#2 rd 0b111100#6 rs1 o2.bits
  | .restore rd rs1 o2 => format3 0b10#2 rd 0b111101#6 rs1 o2.bits
  | .ld rd rs1 o2 => format3 0b11#2 rd 0b000000#6 rs1 o2.bits
  | .ldub rd rs1 o2 => format3 0b11#2 rd 0b000001#6 rs1 o2.bits
  | .lduh rd rs1 o2 => format3 0b11#2 rd 0b000010#6 rs1 o2.bits
  | .ldd rd rs1 o2 => format3 0b11#2 rd 0b000011#6 rs1 o2.bits
  | .st rd rs1 o2 => format3 0b11#2 rd 0b000100#6 rs1 o2.bits
  | .stb rd rs1 o2 => format3 0b11#2 rd 0b000101#6 rs1 o2.bits
  | .sth rd rs1 o2 => format3 0b11#2 rd 0b000110#6 rs1 o2.bits
  | .std rd rs1 o2 => format3 0b11#2 rd 0b000111#6 rs1 o2.bits
  | .ldsb rd rs1 o2 => format3 0b11#2 rd 0b001001#6 rs1 o2.bits
  | .ldsh rd rs1 o2 => format3 0b11#2 rd 0b001010#6 rs1 o2.bits
  | .ldstub rd rs1 o2 => format3 0b11#2 rd 0b001101#6 rs1 o2.bits
  | .swap rd rs1 o2 => format3 0b11#2 rd 0b001111#6 rs1 o2.bits
  | .lda rd rs1 rs2 asi => format3 0b11#2 rd 0b010000#6 rs1 (alternateBits asi rs2)
  | .lduba rd rs1 rs2 asi => format3 0b11#2 rd 0b010001#6 rs1 (alternateBits asi rs2)
  | .lduha rd rs1 rs2 asi => format3 0b11#2 rd 0b010010#6 rs1 (alternateBits asi rs2)
  | .ldda rd rs1 rs2 asi => format3 0b11#2 rd 0b010011#6 rs1 (alternateBits asi rs2)
  | .sta rd rs1 rs2 asi => format3 0b11#2 rd 0b010100#6 rs1 (alternateBits asi rs2)
  | .stba rd rs1 rs2 asi => format3 0b11#2 rd 0b010101#6 rs1 (alternateBits asi rs2)
  | .stha rd rs1 rs2 asi => format3 0b11#2 rd 0b010110#6 rs1 (alternateBits asi rs2)
  | .stda rd rs1 rs2 asi => format3 0b11#2 rd 0b010111#6 rs1 (alternateBits asi rs2)
  | .ldsba rd rs1 rs2 asi => format3 0b11#2 rd 0b011001#6 rs1 (alternateBits asi rs2)
  | .ldsha rd rs1 rs2 asi => format3 0b11#2 rd 0b011010#6 rs1 (alternateBits asi rs2)
  | .ldstuba rd rs1 rs2 asi => format3 0b11#2 rd 0b011101#6 rs1 (alternateBits asi rs2)
  | .swapa rd rs1 rs2 asi => format3 0b11#2 rd 0b011111#6 rs1 (alternateBits asi rs2)
  | .ldf rd rs1 o2 => format3 0b11#2 rd 0b100000#6 rs1 o2.bits
  | .ldfsr rs1 o2 => format3 0b11#2 0#5 0b100001#6 rs1 o2.bits
  | .lddf rd rs1 o2 => format3 0b11#2 rd 0b100011#6 rs1 o2.bits
  | .stf rd rs1 o2 => format3 0b11#2 rd 0b100100#6 rs1 o2.bits
  | .stfsr rs1 o2 => format3 0b11#2 0#5 0b100101#6 rs1 o2.bits
  | .stdfq rs1 o2 => format3 0b11#2 0#5 0b100110#6 rs1 o2.bits
  | .stdf rd rs1 o2 => format3 0b11#2 rd 0b100111#6 rs1 o2.bits
  | .ldc rd rs1 o2 => format3 0b11#2 rd 0b110000#6 rs1 o2.bits
  | .ldcsr rs1 o2 => format3 0b11#2 0#5 0b110001#6 rs1 o2.bits
  | .lddc rd rs1 o2 => format3 0b11#2 rd 0b110011#6 rs1 o2.bits
  | .stc rd rs1 o2 => format3 0b11#2 rd 0b110100#6 rs1 o2.bits
  | .stcsr rs1 o2 => format3 0b11#2 0#5 0b110101#6 rs1 o2.bits
  | .stdcq rs1 o2 => format3 0b11#2 0#5 0b110110#6 rs1 o2.bits
  | .stdc rd rs1 o2 => format3 0b11#2 rd 0b110111#6 rs1 o2.bits

end Sys2Proof
end

