-- ==== Sys2Proof/Units.lean ====
section
/-! DEFINITION. The register-level state of the two attached units, as the IU's instructions see it: the
floating-point unit (10_state.md R49, R55) and the second coprocessor (R50, R55). -/

namespace Sys2Proof

/-- The floating-point unit (TSC692E) as far as IU instructions read or write it (R49, R55, R433). -/
structure Fpu where
  /-- `f[0]` to `f[31]`, 32 bits each (R49). -/
  f : Vector Word 32
  /-- The floating-point state register FSR but for its condition code bits, which are `fcc`: what stands here at their
  places is never read. Its layout is not in the source (R49, N10). -/
  fsr : Word
  /-- The condition code bits of the FSR, which the FCC[1:0] lines carry (R433): 0 E, 1 L, 2 G, 3 U (R251). -/
  fcc : BitVec 2
  /-- The floating-point queue FPQ, front first: (address, instruction) of each entry (R49, R170). -/
  queue : List (Word × Word)
  /-- Exception pending mode: the FPU asserts FEXC (R55, R343). -/
  excPending : Bool
  /-- Exception mode: after FXACK, until the queue has been emptied by STDFQ (R55). -/
  excMode : Bool
deriving DecidableEq, Repr, Inhabited

/-- The second coprocessor as far as IU instructions read or write it (R50, R55, R433). -/
structure Coprocessor where
  /-- `c[0]` to `c[31]`, 32 bits each (R50, R171). -/
  c : Vector Word 32
  /-- The coprocessor state register CSR but for its condition code bits, which are `ccc` (R50). -/
  csr : Word
  /-- The condition code bits of the CSR, which the CCC[1:0] lines carry (R254, R433). -/
  ccc : BitVec 2
  /-- The coprocessor queue CPQ, front first: (address, instruction) (R50, R178). -/
  queue : List (Word × Word)
  /-- Exception pending mode: the coprocessor asserts CEXC (R55, R344). -/
  excPending : Bool
  /-- Exception mode: after CXACK, until the queue has been emptied by STDCQ (R55). -/
  excMode : Bool
deriving DecidableEq, Repr, Inhabited

end Sys2Proof
end

