-- ==== Sys2Proof/Config.lean ====
section
/-! DEFINITION. What an implementation or a board fixes: the static input pins (00_scope.md R10), the platform map
from (ASI, address) to what answers there (92_eei_decisions.md D10), and the free values: constants with no body for
what the spec leaves open (each named in notes/assumptions). -/

namespace Sys2Proof

/-- The static input pins of R10, each fixed for a whole run; `true` is the sense of R10's parameter name. -/
structure Config where
  /-- FP_PRESENT: the FP pin is low, an FPU is attached (R341). -/
  fpPresent : Bool
  /-- CP_PRESENT: the CP pin is low, a coprocessor is attached (R342). -/
  cpPresent : Bool
  /-- IFT pin high: IFLUSH executes as a NOP; low: it traps (R322). -/
  ift : Bool
  /-- FLOW_ENABLED: the FLOW pin is low, program flow control is on (R390). -/
  flowEnabled : Bool
  /-- PARITY_IN_ENABLED: the 601MODE pin is high, input parity is checked (R405). -/
  parityInEnabled : Bool
  /-- CHECKER_MODE: the IU compares instead of driving its outputs (R411). -/
  checkerMode : Bool
  /-- FPSYN, which "should be kept grounded" (R436). -/
  fpsyn : Bool
deriving DecidableEq, Repr

/-- The configuration recommended for a model of ordinary software (D20). -/
def Config.ordinary : Config :=
  { fpPresent := false, cpPresent := false, ift := true, flowEnabled := false
    parityInEnabled := false, checkerMode := false, fpsyn := false }

/-- What answers a bus transaction in a region of the platform map (D10, R73, R75). -/
inductive RegionKind where
  /-- Storage that can be read and written. -/
  | ram
  /-- Storage that can be read; the memory system refuses a write with MEXC. -/
  | rom
  /-- A device whose behaviour the spec does not give. -/
  | device
  /-- Nothing: the memory system answers every access with MEXC. -/
  | absent
deriving DecidableEq, Repr

/-- One region of the platform map: the ASIs `asiLo` to `asiHi`, the addresses `base` to `base + size - 1`. -/
structure Region where
  asiLo : Asi
  asiHi : Asi
  base : Nat
  size : Nat
  kind : RegionKind
  /-- Where the region's bytes are stored, if not under its own ASI and addresses: the address space and the number of the
  doubleword (address / 8) that its first doubleword stands for. So address spaces and addresses can overlap in one
  storage (R73). -/
  stored : Option (Asi × BitVec 29) := none
deriving DecidableEq, Repr

/-- The default platform map of 92_eei_decisions.md: flat RAM for ASIs 0x08 to 0x0B, MEXC elsewhere. -/
def Region.flatRam : List Region :=
  [{ asiLo := 0x08#8, asiHi := 0x0B#8, base := 0, size := 2 ^ 32, kind := .ram }]

/-! ### Free values -/

/-- A free 32-bit value for the n-th draw of a run: f registers after a refused LDDF, c registers after a refused
LDDC (R165, N14), the word of an annulled fetch answered with MEXC (R243), the pair an imprecise error saves and the bad
data of a late one (R399), the data of a device the environment gives none for (R429). -/
opaque Config.freeWord : Nat → Word

/-- A free choice for the n-th draw of a run: old or new word of a refused store double (D11), stale or new word of a
fetch just stored to (D8), the decision of a CBccc too close to its compare (R255). -/
opaque Config.freeBool : Nat → Bool

/-- A free word-aligned address, as its bits 31:2, for the n-th draw of a run: nPC after the second transfer of an
unsupported couple (R257, D15). -/
opaque Config.freeTarget : Nat → BitVec 30

/-- Word `k` of the result of the floating-point operation `opf` on the operand groups `a` (rs1) and `b` (rs2) under
the FSR: the arithmetic is the FPU's (R8, R310). -/
opaque Config.fpResult : (opf : BitVec 9) → (a b : List Word) → (fsr : Word) → (k : Nat) → Word

/-- Whether the FPU detects an exception in the operation (R306, I19). -/
opaque Config.fpRaises : (opf : BitVec 9) → (a b : List Word) → (fsr : Word) → Bool

/-- The relation FCC[1:0] a floating-point compare finds (R310): 0 E, 1 L, 2 G, 3 U. -/
opaque Config.fpRelation : (opf : BitVec 9) → (a b : List Word) → (fsr : Word) → BitVec 2

/-- The FSR after a floating-point operation that completes (layout not in the source, N10). -/
opaque Config.fsrAfterFpop : (opf : BitVec 9) → (a b : List Word) → (fsr : Word) → Word

/-- The FSR after the FPU detects an exception in the instruction word: its tt field encodes the type (R343, N10). -/
opaque Config.fsrAfterException : (instr : Word) → (fsr : Word) → Word

/-- The f registers after the FPU asserts FEXC of its own accord with these instructions unfinished: which of their results
are written is open (R306, I19). -/
opaque Config.fUnfinished : (queue : List (Word × Word)) → Fpu → Vector Word 32

/-- The FSR after LDFSR of `v` over the old FSR: which bits are writable is not in the source (R166). -/
opaque Config.fsrLoaded : (old v : Word) → Word

/-- Where the two condition code bits stand in the FSR, which is not in the source (R433, N10): the place of the high bit,
and how far after it, less one and modulo 32, the low bit stands. -/
opaque Config.fccPlace : Fin 32 × Fin 31

/-- The FPU after an instruction other than STDFQ that it is handed in exception mode, with the data words of a load: "what
happens to another FP instruction then ... is not said" (N12, R306, I19). -/
opaque Config.fpuUnready : (instr addr : Word) → (data : List Word) → Fpu → Fpu

/-- Word `k` the FPU drives for a store that it is handed in exception mode (N12). -/
opaque Config.fpuUnreadyWord : (instr addr : Word) → Fpu → (k : Nat) → Word

/-- Whether CPop1 (`second = false`) or CPop2 (`second = true`) with the given fields and address causes an exception: the
causes are the designer's (R309, I18). -/
opaque Config.cpopRaises :
  (second : Bool) → (opc : BitVec 9) → (rd rs1 rs2 : Reg) → (addr : Word) → Coprocessor → Bool

/-- The CSR after the coprocessor recognises an exception of the instruction word: its tt field encodes the type (R344). -/
opaque Config.csrAfterException : (instr : Word) → (csr : Word) → Word

/-- The c registers after the coprocessor asserts CEXC of its own accord, as `Config.fUnfinished` (R309, I18). -/
opaque Config.cUnfinished : (queue : List (Word × Word)) → Coprocessor → Vector Word 32

/-- The coprocessor after that CPop completes, of which c, CSR and CCC are taken: opc and its effect are the designer's
(R307, I18). -/
opaque Config.cpopEffect :
  (second : Bool) → (opc : BitVec 9) → (rd rs1 rs2 : Reg) → (addr : Word) → Coprocessor → Coprocessor

/-- Whether that CPop is a coprocessor compare, "defined by the designer" (R308, R255). -/
opaque Config.cpopIsCompare : (second : Bool) → (opc : BitVec 9) → Bool

/-- Where the two condition code bits stand in the CSR, "implementation dependent" (R50, R433), as `Config.fccPlace`. -/
opaque Config.cccPlace : Fin 32 × Fin 31

/-- The coprocessor after a load or store that it is handed in exception mode, with the data words of a load (R309, I18). -/
opaque Config.cpUnready : (instr addr : Word) → (data : List Word) → Coprocessor → Coprocessor

/-- Word `k` the coprocessor drives for a store that it is handed in exception mode (R309, I18). -/
opaque Config.cpUnreadyWord : (instr addr : Word) → Coprocessor → (k : Nat) → Word

end Sys2Proof
end

