-- ==== Sys2Proof/Machine/State.lean ====
section
/-! DEFINITION. The state of the machine as plain data (10_state.md), the environment sample a step reads (00_scope.md
R11, 62_signals.md R443), the events a step makes observable, the reasons a step can stop, and the state after reset. -/

namespace Sys2Proof.Machine

/-- The three processor states (R29). -/
inductive Mode where
  | execute
  | reset
  | error
deriving DecidableEq, Repr

/-- The integer condition codes (R36). -/
structure Icc where
  /-- Negative, PSR bit 23. -/
  n : Bool
  /-- Zero, PSR bit 22. -/
  z : Bool
  /-- Overflow, PSR bit 21. -/
  v : Bool
  /-- Carry, PSR bit 20. -/
  c : Bool
deriving DecidableEq, Repr

/-- The Processor State Register, field by field (R34); impl and ver are constants and bits 19:14 read as 0 (R35, R38). -/
structure PSR where
  /-- icc, bits 23:20 (R36). -/
  icc : Icc
  /-- EC, bit 13: the coprocessor is enabled (R39). -/
  ec : Bool
  /-- EF, bit 12: the FPU is enabled (R40). -/
  ef : Bool
  /-- PIL, bits 11:8: the processor interrupt level (R41). -/
  pil : BitVec 4
  /-- S, bit 7: supervisor mode (R41). -/
  s : Bool
  /-- PS, bit 6: S at the most recent trap (R42). -/
  ps : Bool
  /-- ET, bit 5: traps are enabled (R43). -/
  et : Bool
  /-- CWP, bits 2:0 of the field; bits 4:3 are always 0 (R44). -/
  cwp : BitVec 3
deriving DecidableEq, Repr

/-- The types of hardware error (R399), but for the program flow error, by their tt values. -/
inductive HwError where
  /-- tt 0x61. -/
  | restartablePrecise
  /-- tt 0x62. -/
  | nonRestartablePrecise
  /-- tt 0x63: the trap is taken after the failing instruction. -/
  | restartableLate
  /-- tt 0x64. -/
  | imprecise
  /-- tt 0x65. -/
  | registerFile
  /-- tt 0x66: raised by the check instruction (R393), never by the environment (R398). -/
  | programFlow
deriving DecidableEq, Repr

/-- The traps of R333, reset apart. -/
inductive Trap where
  | hardware (e : HwError)
  | instructionAccess
  | illegalInstruction
  | privilegedInstruction
  | fpDisabled
  | cpDisabled
  | windowOverflow
  | windowUnderflow
  | memAddressNotAligned
  | fpException
  | cpException
  | dataAccess
  | tagOverflow
  /-- A taken Ticc with trap number `n` (R349). -/
  | trapInstruction (n : BitVec 7)
  /-- An interrupt of level 1 to 15 (R361). -/
  | interrupt (level : BitVec 4)
deriving DecidableEq, Repr

/-- The locations of Table 41 in which an upset can be detected (R402). -/
inductive ErrorLocation where
  | registerFile
  /-- The latches of the pipeline's fetch stage. -/
  | fetchStage
  | decodeStage
  | executeStage
  | writeStage
  | psr
  | wim
  | tbr
  | y
deriving DecidableEq, Repr

/-- What the environment answers to one data access (R79, R429). `ready` leaves the answer to the platform map. -/
inductive BusAnswer where
  | ready
  /-- A device takes the access and drives `v`; storage answers as for `ready`. -/
  | data (v : Word)
  /-- MEXC: the access is refused. -/
  | mexc
  /-- RESET is recognised before the access is made (D21). -/
  | reset
deriving DecidableEq, Repr

/-- The varying inputs of one step (R11, R443): the environment's choice. -/
structure Pins where
  /-- RESET is asserted (R450). -/
  reset : Bool
  /-- An error is detected in the two-rail coding of RESET (R451). -/
  resetFault : Bool
  /-- HALT is asserted (R440). -/
  halt : Bool
  /-- One of MHOLDA, MHOLDB, BHOLD, FHOLD, CHOLD asserted, or FCCV or CCCV deasserted (R470). -/
  hold : Bool
  /-- IRL[3:0] (R360). -/
  irl : BitVec 4
  /-- The hardware errors reported for the instruction of this step by their type (R398). -/
  hwErrors : List HwError
  /-- The upsets detected in this step, by their location (R402). -/
  upsets : List ErrorLocation
  /-- The error that HWERROR indicates has not been removed yet (R404, R438). -/
  errorRemains : Bool
  /-- The instruction fetch is answered with MEXC (R337). -/
  fetchMexc : Bool
  /-- The word a device drives for the fetch (R429). -/
  fetchData : Option Word
  /-- How many words beyond the one at PC the IU fetches ahead in this step, at most five (R78). -/
  prefetch : Nat
  /-- DPAR is wrong on the fetched word (R403). -/
  fetchParity : Bool
  /-- DPAR is wrong on loaded data (R403). -/
  loadParity : Bool
  /-- FIPAR is wrong: parity of the FPU-to-IU control signals (R403). -/
  fipar : Bool
  /-- The FPU drives FCC[1:0] anew before the step (R11, R433). -/
  fcc : Option (BitVec 2)
  /-- The FPU asserts FEXC before the step (R11, R434), if this is not empty: the address and word of each FPop it has not
  finished, the one that caused the exception in front (R55, R343). -/
  fexc : List (Word × Word)
  /-- The coprocessor drives CCC[1:0] anew before the step (R11, R433). -/
  ccc : Option (BitVec 2)
  /-- The coprocessor asserts CEXC before the step, if this is not empty: its unfinished CPops as for `fexc` (R50, R344). -/
  cexc : List (Word × Word)
  /-- The answers to the data accesses of the step, in order; `ready` where the list ends. -/
  dataAnswers : List BusAnswer
  /-- Bytes other bus masters write before the step (R84), as memory cells. -/
  masterWrites : List Host.Cell
  /-- Bytes they write between the fetch of the step and its first data access (R84). -/
  midWrites : List Host.Cell
deriving DecidableEq, Repr

/-- No request and no error: the environment of an undisturbed step. -/
def Pins.quiet : Pins :=
  { reset := false, resetFault := false, halt := false, hold := false, irl := 0#4, hwErrors := [], upsets := []
    errorRemains := false, fetchMexc := false, fetchData := none, prefetch := 0, fetchParity := false, loadParity := false
    fipar := false, fcc := none, fexc := [], ccc := none, cexc := [], dataAnswers := [], masterWrites := []
    midWrites := [] }

/-- The size of one memory access (R426). `double` is one of the two word accesses of a doubleword. -/
inductive AccessSize where
  | byte
  | half
  | word
  | double
deriving DecidableEq, Repr

/-- The kind of a bus transaction (R443). -/
inductive BusKind where
  | fetch
  | read
  | write
deriving DecidableEq, Repr

/-- One bus transaction as the environment sees it (R443). -/
structure BusCycle where
  kind : BusKind
  asi : Asi
  addr : Word
  size : AccessSize
  /-- The 32 data lines of a write: a byte or halfword is repeated on every lane (R66). -/
  data : Option Word
  /-- LOCK (R425). -/
  locked : Bool
  /-- LDSTO (R425). -/
  atomic : Bool
deriving DecidableEq, Repr

/-- An output of a step (R443); `State.outputs` says which of them the IU drives (R411). -/
inductive Event where
  | bus (c : BusCycle)
  /-- FINS: the FPU is handed the instruction word and its address (R304). -/
  | launchFp (word addr : Word)
  /-- CINS: the coprocessor is handed the instruction word and its address (R307). -/
  | launchCp (word addr : Word)
  /-- FXACK (R434). -/
  | fxack
  /-- CXACK (R434). -/
  | cxack
  /-- FLUSH: a trap is taken (R434). -/
  | flush
  /-- INTACK (R362). -/
  | intack
  /-- ERROR is asserted (R356). -/
  | error
  /-- HWERROR is asserted (R404). -/
  | hwerror
deriving DecidableEq, Repr

/-- The whole state: what the spec gives the machine and its attached units, the configuration, and the model's own
record of the environment. -/
structure State where
  /-- The static input pins (R10). -/
  cfg : Config
  /-- The platform map (D10). -/
  platform : List Region
  /-- The processor state (R29). -/
  mode : Mode
  /-- PC (R31). -/
  pc : Word
  /-- nPC (R31). -/
  npc : Word
  /-- The instruction register: the word of the instruction being executed (R475). -/
  ir : Word
  psr : PSR
  /-- WIM[7:0] (R46). -/
  wim : BitVec 8
  /-- TBR.TBA (R47). -/
  tba : BitVec 20
  /-- TBR.tt (R47). -/
  tt : BitVec 8
  /-- Y (R48). -/
  y : Word
  /-- The r registers: `G[0..7]` and then `P[0..127]` of R22. -/
  regs : Vector Word 136
  /-- annul_next (R52). -/
  annulNext : Bool
  /-- The instruction at PC is the delay instruction of a conditional branch other than B*A (R257). -/
  condDelay : Bool
  /-- pfc_sum (R54, R391). -/
  pfcSum : Word
  /-- pfc_check_enabled (R54, R394). -/
  pfcCheckEnabled : Bool
  /-- The floating-point unit (R49). -/
  fpu : Fpu
  /-- The coprocessor (R50). -/
  cp : Coprocessor
  /-- Since the last coprocessor compare only coprocessor instructions have executed (R255). -/
  cpCompare : Bool
  /-- HWERROR is asserted (R404, R438). -/
  hwerror : Bool
  /-- Memory: the cells that differ from the background, keyed by `cellKey`, addresses rising. -/
  mem : List Host.Cell
  /-- What the bytes stored by the current instruction held before, latest store first (D8). -/
  wrote : List Host.Cell
  /-- The same for the instruction executed last. -/
  recent1 : List Host.Cell
  /-- The same for the instruction executed before that. -/
  recent2 : List Host.Cell
  /-- A load of this step has taken bad data: wrong parity, or the late error that is reported (R399, R403). -/
  badLoad : Bool
  /-- The environment sample of this step. -/
  pins : Pins
  /-- The samples of the steps to come; quiet pins when the list has ended. -/
  env : List Pins
  /-- The outputs of the latest step, in order (R443). -/
  events : List Event
  /-- How many free values have been drawn. -/
  draws : Nat
deriving DecidableEq, Repr

/-- Why the machine stops with a fault: for no reason. Every trap of the spec is taken, no address is outside the address
space, and what a device or a unit answers is the environment's. -/
inductive Fault where
deriving DecidableEq, Repr

/-- Why a step has no meaning. -/
inductive Refusal where
  /-- Raised by an arm of `exec` without a meaning. Safe: the run stops. -/
  | notModelled (mnemonic : String)
  /-- Raised by STDFQ with an empty floating-point queue, which the spec refuses (N11, I20). Safe. -/
  | fpQueueEmpty
  /-- Raised by STDCQ with an empty coprocessor queue (N11, I20). Safe. -/
  | cpQueueEmpty
  /-- Raised by every step with FPSYN high, a configuration the spec refuses (R436, I21). Safe. -/
  | fpsynHigh
deriving DecidableEq, Repr

/-- The outcome of an instruction or a step. -/
abbrev Result := Host.Outcome State Fault Refusal

/-- How an access ends: with a value (for a write, any) and the state after it, refused by the memory system, or cut off by
RESET. -/
inductive Access where
  | ok (v : Word) (s : State)
  | exception (s : State)
  | reset (s : State)
deriving DecidableEq, Repr

/-- The floating-point unit at power-on: the spec states no value (R57); zeros, an empty queue and no exception
(DESIGN CHOICE, log 1). -/
def initialFpu : Fpu :=
  { f := Vector.replicate 32 0#32, fsr := 0#32, fcc := 0#2, queue := [], excPending := false, excMode := false }

/-- The coprocessor at power-on, as `initialFpu` (DESIGN CHOICE, log 1). -/
def initialCp : Coprocessor :=
  { c := Vector.replicate 32 0#32, csr := 0#32, ccc := 0#2, queue := [], excPending := false, excMode := false }

/-- The PSR at power-on: ET = 0 and S = 1 (R57); every other field 0 (DESIGN CHOICE, log 1). -/
def initialPsr : PSR :=
  { icc := { n := false, z := false, v := false, c := false }, ec := false, ef := false, pil := 0#4, s := true, ps := false
    et := false, cwp := 0#3 }

/-- The machine right after a power-on reset (R57, R450): execute mode, PC = 0, nPC = 4, ET = 0, S = 1, no annul,
checksum 0, checking enabled. Registers the spec states no value for hold 0 (DESIGN CHOICE, log 1); the configuration is
that of D20 (log 3); the environment is quiet (log 5). -/
def State.reset : State :=
  { cfg := Config.ordinary, platform := Region.flatRam, mode := .execute, pc := 0#32, npc := 4#32, ir := 0#32
    psr := initialPsr, wim := 0#8, tba := 0#20, tt := 0#8, y := 0#32, regs := Vector.replicate 136 0#32
    annulNext := false, condDelay := false, pfcSum := 0#32, pfcCheckEnabled := true
    fpu := initialFpu, cp := initialCp, cpCompare := false, hwerror := false
    mem := [], wrote := [], recent1 := [], recent2 := [], badLoad := false
    pins := Pins.quiet, env := [], events := [], draws := 0 }

end Sys2Proof.Machine
end

