-- ==== Sys2Proof/Machine/Memory.lean ====
section
/-! DEFINITION. Memory as a list of cells in one canonical form, and the map from (ASI, address) to cells and regions
(20_memory.md). -/

namespace Sys2Proof.Machine

/-- What a byte that no cell lists reads as (DESIGN CHOICE, log 2). -/
def background : Byte := 0#8

/-- The byte at a key. -/
def readCell : List Host.Cell → Nat → Byte
  | [], _ => background
  | (a, b) :: m, k => if a = k then b else readCell m k

/-- The memory without a cell for `k`. -/
def eraseCell (m : List Host.Cell) (k : Nat) : List Host.Cell := m.filter (fun c => c.1 != k)

/-- The cell `(k, b)` put in its place among cells of other keys. -/
def insertCell (k : Nat) (b : Byte) : List Host.Cell → List Host.Cell
  | [] => [(k, b)]
  | (a, c) :: m => if k < a then (k, b) :: (a, c) :: m else (a, c) :: insertCell k b m

/-- The memory after a byte is written; writing the background removes the cell. -/
def writeCell (m : List Host.Cell) (k : Nat) (b : Byte) : List Host.Cell :=
  if b = background then eraseCell m k else insertCell k b (eraseCell m k)

/-- The memory after several bytes are written, in order. -/
def writeCells (m : List Host.Cell) (cells : List Host.Cell) : List Host.Cell :=
  cells.foldl (fun m c => writeCell m c.1 c.2) m

/-- The keys rise strictly, all above `lo` where it is given. -/
def rising : Option Nat → List Host.Cell → Bool
  | _, [] => true
  | none, (a, _) :: m => rising (some a) m
  | some lo, (a, _) :: m => decide (lo < a) && rising (some a) m

/-- The canonical form: strictly rising keys and no cell that holds the background. -/
def Memory.wf (m : List Host.Cell) : Bool := rising none m && m.all (fun c => c.2 != background)

/-- ASIs 0x08 to 0x0B address one byte array (R73). -/
def sharedAsi (asi : Asi) : Bool := decide (8 ≤ asi.toNat) && decide (asi.toNat ≤ 11)

/-- A region covers an address. -/
def covers (r : Region) (asi : Asi) (addr : Word) : Bool :=
  decide (r.asiLo.toNat ≤ asi.toNat) && decide (asi.toNat ≤ r.asiHi.toNat)
    && decide (r.base ≤ addr.toNat) && decide (addr.toNat < r.base + r.size)

/-- What answers at (ASI, address): the first region that covers it, else nothing (R73, D10). -/
def regionKind (platform : List Region) (asi : Asi) (addr : Word) : RegionKind :=
  match platform.find? (fun r => covers r asi addr) with
  | some r => r.kind
  | none => .absent

/-- The number of the byte array of an address space: one for ASIs 0x08 to 0x0B together (R73). -/
def spaceNumber (asi : Asi) : Nat := if sharedAsi asi then 0 else asi.toNat + 1

/-- The storage behind a doubleword of an address space: its own, or where the region that covers its first byte is stored.
For ASIs 0x08 to 0x0B the region is looked up under 0x08, so that the four always address the same bytes (R73). -/
def storageOf (platform : List Region) (asi : Asi) (block : BitVec 29) : Nat × BitVec 29 :=
  match platform.find? (fun r => covers r (if sharedAsi asi then 0x08#8 else asi) (block ++ 0#3)) with
  | none => (spaceNumber asi, block)
  | some r =>
    match r.stored with
    | none => (spaceNumber asi, block)
    | some (home, first) => (spaceNumber home, first + (block - BitVec.ofNat 29 (r.base / 8)))

/-- The memory key of a byte address in an address space: its doubleword's storage and its place in the doubleword. -/
def cellKey (platform : List Region) (asi : Asi) (addr : Word) : Nat :=
  let home := storageOf platform asi (addr.extractLsb' 3 29)
  (home.1 * 2 ^ 29 + home.2.toNat) * 8 + (addr.extractLsb' 0 3).toNat

/-- The cells of consecutive bytes from an address on; addresses wrap (D2). -/
def cellsAt (platform : List Region) (asi : Asi) : Word → List Byte → List Host.Cell
  | _, [] => []
  | addr, b :: bs => (cellKey platform asi addr, b) :: cellsAt platform asi (addr + 1#32) bs

/-- The bytes a store of a given size writes, the lowest address first (R60, R64). -/
def storedBytes (size : AccessSize) (v : Word) : List Byte :=
  match size with
  | .byte => [v.extractLsb' 0 8]
  | .half => [v.extractLsb' 8 8, v.extractLsb' 0 8]
  | .word | .double => bytesOfWord v

/-- The value a load of a given size reads, zero-extended: big-endian (R60). -/
def readValue (platform : List Region) (m : List Host.Cell) (asi : Asi) (addr : Word) (size : AccessSize) : Word :=
  let byte (i : Word) : Byte := readCell m (cellKey platform asi (addr + i))
  match size with
  | .byte => (byte 0#32).setWidth 32
  | .half => (byte 0#32 ++ byte 1#32).setWidth 32
  | .word | .double => wordOfBytes (byte 0#32) (byte 1#32) (byte 2#32) (byte 3#32)

/-- `addr` is aligned for an access of the given size (R67, R68). -/
def aligned (size : AccessSize) (addr : Word) : Bool :=
  match size with
  | .byte => true
  | .half => addr.extractLsb' 0 1 == 0#1
  | .word => addr.extractLsb' 0 2 == 0#2
  | .double => addr.extractLsb' 0 3 == 0#3

/-- How many bytes an access of a given size moves (R15, R77). -/
def AccessSize.bytes : AccessSize → Nat
  | .byte => 1
  | .half => 2
  | .word | .double => 4

/-- SIZE[1:0] (R426). -/
def AccessSize.code : AccessSize → BitVec 2
  | .byte => 0b00#2
  | .half => 0b01#2
  | .word => 0b10#2
  | .double => 0b11#2

/-- The data lines of a store: a byte or halfword is repeated on every section of the bus (R66, R428). -/
def busLanes (size : AccessSize) (v : Word) : Word :=
  match size with
  | .byte => let b := v.extractLsb' 0 8; b ++ b ++ b ++ b
  | .half => let h := v.extractLsb' 0 16; h ++ h
  | .word | .double => v

/-- The value a load takes from the 32 data lines: the addressed byte or halfword, zero-extended (R60, R64, R428). -/
def fromLanes (size : AccessSize) (addr v : Word) : Word :=
  match size with
  | .byte => ((v >>> (24 - 8 * (addr.extractLsb' 0 2).toNat)).extractLsb' 0 8).setWidth 32
  | .half => ((v >>> (16 - 16 * (addr.extractLsb' 1 1).toNat)).extractLsb' 0 16).setWidth 32
  | .word | .double => v

end Sys2Proof.Machine
end

