-- ==== Sys2Proof/Machine/Ops.lean ====
section
/-! DEFINITION. The named operations every meaning uses: registers and windows, the ends of an instruction, bus
accesses, and taking a trap (10_state.md, 20_memory.md, 60_exceptions.md). Returning from one stands beside it. -/

namespace Sys2Proof.Machine

/-! ### The r registers (R20 to R24) -/

/-- The place of register `i` seen from window `w` in the register file (R22). -/
def regIndex (w : BitVec 3) (i : Reg) : Fin 136 :=
  if h : i.toNat < 8 then ⟨i.toNat, by omega⟩
  else ⟨8 + (16 * w.toNat + (i.toNat - 8)) % 128, by omega⟩

/-- `rw[w][i]`: register `i` seen from window `w`; r[0] reads 0 (R14, R24). -/
def State.regIn (s : State) (w : BitVec 3) (i : Reg) : Word :=
  if i = 0#5 then 0#32 else s.regs[(regIndex w i).val]

/-- Writing `rw[w][i]`; a write to r[0] is discarded (R24). -/
def State.setRegIn (s : State) (w : BitVec 3) (i : Reg) (v : Word) : State :=
  if i = 0#5 then s else { s with regs := s.regs.set (regIndex w i).val v (regIndex w i).isLt }

/-- `r[i]`, in the current window (R14). -/
def State.reg (s : State) (i : Reg) : Word := s.regIn s.psr.cwp i

/-- Writing `r[i]` in the current window (R14). -/
def State.setReg (s : State) (i : Reg) (v : Word) : State := s.setRegIn s.psr.cwp i v

/-- The even register of a doubleword pair (R126, D9). -/
def evenReg (rd : Reg) : Reg := rd &&& 0b11110#5

/-- The odd register of a doubleword pair (R126, D9). -/
def oddReg (rd : Reg) : Reg := rd ||| 0b00001#5

/-! ### The control registers as words -/

/-- The PSR as RDPSR reads it (R34, R35, R38). -/
def PSR.toWord (p : PSR) : Word :=
  0b0001#4 ++ 0b0001#4 ++ BitVec.ofBool p.icc.n ++ BitVec.ofBool p.icc.z ++ BitVec.ofBool p.icc.v
    ++ BitVec.ofBool p.icc.c ++ 0#6 ++ BitVec.ofBool p.ec ++ BitVec.ofBool p.ef ++ p.pil ++ BitVec.ofBool p.s
    ++ BitVec.ofBool p.ps ++ BitVec.ofBool p.et ++ 0#2 ++ p.cwp

/-- The PSR that WRPSR of `v` leaves; impl, ver and bits 19:14 are not written (R286; D3, log 6). -/
def PSR.ofWord (v : Word) : PSR :=
  { icc := { n := v.getLsbD 23, z := v.getLsbD 22, v := v.getLsbD 21, c := v.getLsbD 20 }
    ec := v.getLsbD 13, ef := v.getLsbD 12, pil := v.extractLsb' 8 4
    s := v.getLsbD 7, ps := v.getLsbD 6, et := v.getLsbD 5, cwp := v.extractLsb' 0 3 }

/-- The TBR: TBA, tt and four zeros (R47). -/
def State.tbr (s : State) : Word := s.tba ++ s.tt ++ 0#4

/-- The WIM as RDWIM reads it (R46). -/
def State.wimWord (s : State) : Word := s.wim.setWidth 32

/-- Window `w` is marked invalid (R46). -/
def State.windowInvalid (s : State) (w : BitVec 3) : Bool := s.wim.getLsbD w.toNat

/-! ### Free values -/

/-- The state after one free value is drawn. -/
def State.drawn (s : State) : State := { s with draws := s.draws + 1 }

/-! ### The ends of an instruction -/

/-- What completing an instruction does beside its own effect: the word is folded into the checksum when program flow
control is on (R391), the record of recent stores moves on (D8), and the two spacing marks fall (R255, R257). -/
def State.retire (s : State) : State :=
  { s with
    pfcSum := if s.cfg.flowEnabled then s.pfcSum ^^^ s.ir else s.pfcSum
    recent2 := s.recent1, recent1 := s.wrote, wrote := []
    condDelay := false, cpCompare := false }

/-- `advance`: PC takes nPC and nPC goes on by 4, modulo 2^32 (R16, R31, D2). -/
def State.advance (s : State) : State :=
  { s.retire with pc := s.npc, npc := s.npc + 4#32 }

/-- `advance` for a coprocessor instruction, which does not end the spacing after a compare (R255). -/
def State.advanceCp (s : State) : State := { s.advance with cpCompare := s.cpCompare }

/-- A delayed control transfer: PC takes nPC and nPC the target (R240). In the delay slot of a conditional branch the
target is a free word-aligned address (R257, D15). -/
def State.transfer (s : State) (target : Word) : State :=
  { s.retire with
    pc := s.npc
    npc := if s.condDelay then Config.freeTarget s.draws ++ 0#2 else target
    draws := if s.condDelay then s.draws + 1 else s.draws }

/-- The state with icc written. -/
def State.setIcc (s : State) (f : Icc) : State := { s with psr := { s.psr with icc := f } }

/-- An instruction whose effect is to write r[rd] (R190). -/
def writeReg (rd : Reg) (v : Word) (s : State) : Result := .next (s.setReg rd v).advance

/-- An instruction whose effect is to write r[rd] and icc; icc is written whatever rd is (R190). -/
def writeRegCc (rd : Reg) (v : Word) (f : Icc) (s : State) : Result := .next ((s.setReg rd v).setIcc f).advance

/-! ### Events -/

/-- The state with one more output. -/
def State.emit (s : State) (e : Event) : State := { s with events := s.events ++ [e] }

/-- The outputs a checker drives too: all others are high-Z (R411). -/
def Event.drivenByChecker : Event → Bool
  | .error | .hwerror => true
  | .bus _ | .launchFp _ _ | .launchCp _ _ | .fxack | .cxack | .flush | .intack => false

/-- The outputs of the latest step that the IU drives (R411, R443). -/
def State.outputs (s : State) : List Event :=
  if s.cfg.checkerMode then s.events.filter Event.drivenByChecker else s.events

/-- ERROR is asserted exactly while the mode is error (R356, R438). -/
def State.errorLine (s : State) : Bool := s.mode == .error

/-! ### Traps (60_exceptions.md) -/

/-- The tt value of a hardware error (R399). -/
def HwError.tt : HwError → BitVec 8
  | .restartablePrecise => 0x61#8
  | .nonRestartablePrecise => 0x62#8
  | .restartableLate => 0x63#8
  | .imprecise => 0x64#8
  | .registerFile => 0x65#8
  | .programFlow => 0x66#8

/-- The error type of a location (R402, Table 41). -/
def ErrorLocation.error : ErrorLocation → HwError
  | .registerFile => .registerFile
  | .fetchStage => .restartablePrecise
  | .decodeStage => .nonRestartablePrecise
  | .executeStage => .imprecise
  | .writeStage => .imprecise
  | .psr => .imprecise
  | .wim => .nonRestartablePrecise
  | .tbr => .nonRestartablePrecise
  | .y => .restartablePrecise

/-- The hardware errors of the sample, those of Table 41 by their location (R398, R402). -/
def Pins.errors (p : Pins) : List HwError := p.hwErrors ++ p.upsets.map ErrorLocation.error

/-- Priority among hardware errors, 1 the highest (R400). -/
def HwError.priority : HwError → Nat
  | .imprecise => 1
  | .nonRestartablePrecise => 2
  | .registerFile => 3
  | .restartableLate => 4
  | .restartablePrecise => 5
  | .programFlow => 6

/-- The trap type tt (R333). -/
def Trap.tt : Trap → BitVec 8
  | .hardware e => e.tt
  | .instructionAccess => 1#8
  | .illegalInstruction => 2#8
  | .privilegedInstruction => 3#8
  | .fpDisabled => 4#8
  | .cpDisabled => 36#8
  | .windowOverflow => 5#8
  | .windowUnderflow => 6#8
  | .memAddressNotAligned => 7#8
  | .fpException => 8#8
  | .cpException => 40#8
  | .dataAccess => 9#8
  | .tagOverflow => 10#8
  | .trapInstruction n => 1#1 ++ n
  | .interrupt level => 0b0001#4 ++ level

/-- The priority of a trap, 1 the highest (R333). -/
def Trap.priority : Trap → Nat
  | .hardware _ => 2
  | .instructionAccess => 3
  | .illegalInstruction => 4
  | .privilegedInstruction => 5
  | .fpDisabled | .cpDisabled => 6
  | .windowOverflow | .windowUnderflow => 7
  | .memAddressNotAligned => 8
  | .fpException | .cpException => 9
  | .dataAccess => 10
  | .tagOverflow => 11
  | .trapInstruction _ => 12
  | .interrupt level => 28 - level.toNat

/-- What a trap makes observable: FLUSH always, and its own acknowledge or error output (R304, R343, R344, R362, R404). -/
def Trap.signals : Trap → List Event
  | .hardware _ => [.flush, .hwerror]
  | .fpException => [.flush, .fxack]
  | .cpException => [.flush, .cxack]
  | .interrupt _ => [.flush, .intack]
  | _ => [.flush]

/-- The trap is a hardware error, which asserts HWERROR (R336, R404; C9). -/
def Trap.isHardware : Trap → Bool
  | .hardware _ => true
  | _ => false

/-- The FPU on FXACK: from exception pending to exception mode, which lasts while its queue has entries (R55, R306). -/
def acknowledgeFp (u : Fpu) : Fpu := { u with excPending := false, excMode := !u.queue.isEmpty }

/-- The coprocessor on CXACK (R55, R309). -/
def acknowledgeCp (u : Coprocessor) : Coprocessor := { u with excPending := false, excMode := !u.queue.isEmpty }

/-- The FPU after a trap: it is acknowledged by fp_exception only (R343). -/
def Trap.fpuAfter (t : Trap) (u : Fpu) : Fpu :=
  match t with
  | .fpException => acknowledgeFp u
  | _ => u

/-- The coprocessor after a trap: it is acknowledged by cp_exception only (R344). -/
def Trap.cpAfter (t : Trap) (u : Coprocessor) : Coprocessor :=
  match t with
  | .cpException => acknowledgeCp u
  | _ => u

/-- Trap entry (R351), saving `pc` and `npc` in r[17] and r[18] of the trap window. -/
def trapEntryAt (pc npc : Word) (t : Trap) (s : State) : State :=
  let w := s.psr.cwp - 1#3
  let saved := (s.setRegIn w 17#5 pc).setRegIn w 18#5 npc
  { saved with
    psr := { s.psr with et := false, ps := s.psr.s, s := true, cwp := w }
    tt := t.tt
    pc := s.tba ++ t.tt ++ 0#4
    npc := (s.tba ++ t.tt ++ 0#4) + 4#32
    annulNext := false
    condDelay := false
    pfcCheckEnabled := s.pfcCheckEnabled && !s.cfg.flowEnabled
    fpu := t.fpuAfter s.fpu
    cp := t.cpAfter s.cp
    hwerror := s.hwerror || t.isHardware
    events := s.events ++ t.signals }

/-- Entering error mode after trap entry with traps disabled (R356). -/
def State.enterError (s : State) : State := { s.emit .error with mode := .error }

/-- A synchronous trap that saves `pc` and `npc`: with ET = 1 it is taken (R351), with ET = 0 the same steps are done
and the processor enters error mode (R356, D17). -/
def raiseAt (pc npc : Word) (t : Trap) (s : State) : State :=
  if s.psr.et then trapEntryAt pc npc t s else (trapEntryAt pc npc t s).enterError

/-- `raise`: the instruction is aborted and the trap saves PC and nPC (R16, R335). -/
def raise (t : Trap) (s : State) : Result := .next (raiseAt s.pc s.npc t s)

/-- PC and nPC of the next instruction that is to have an effect: an annulled one is skipped (R352). -/
def State.resumePair (s : State) : Word × Word :=
  if s.annulNext then (s.npc, s.npc + 4#32) else (s.pc, s.npc)

/-- An interrupt of the given level is taken (R361, R352). -/
def takeInterrupt (level : BitVec 4) (s : State) : State :=
  trapEntryAt s.resumePair.1 s.resumePair.2 (.interrupt level) s

/-- What RETT restores once its checks have passed: ET, the window above, and S from PS; the next program flow check is
disabled (R263, R355, R394). -/
def State.returnFromTrap (s : State) : State :=
  { s with
    psr := { s.psr with et := true, s := s.psr.ps, cwp := s.psr.cwp + 1#3 }
    pfcCheckEnabled := s.pfcCheckEnabled && !s.cfg.flowEnabled }

/-! ### Reset (R450) -/

/-- RESET is recognised: reset mode, and HWERROR is deasserted (R450, R404, R453). No FLUSH (DESIGN CHOICE, log 55). -/
def State.enterReset (s : State) : State := { s with mode := .reset, hwerror := false }

/-- RESET is deasserted: the reset trap (R450, R57, R58, D5). What it does to the f registers, FSR, queues, exception flags
and the coprocessor's state is "not stated by the source" (R57, N10): they are kept (DESIGN CHOICE, log 50). A word stored
just before the reset can still be fetched stale after it (DESIGN CHOICE, log 16). FLUSH is not asserted: R434 has it at every
trap, R443 on trap entry, which R351 does not count reset as (DESIGN CHOICE, log 55). -/
def State.leaveReset (s : State) : State :=
  { s with
    mode := .execute
    psr := { s.psr with et := false, s := true }
    pc := 0#32, npc := 4#32
    annulNext := false, condDelay := false, cpCompare := false
    pfcSum := 0#32, pfcCheckEnabled := true }

/-! ### Guards -/

/-- A privileged instruction raises privileged_instruction in user mode (R339, R371). -/
def privileged (k : State → Result) (s : State) : Result :=
  if s.psr.s then k s else raise .privilegedInstruction s

/-- A misaligned address raises mem_address_not_aligned before any access (R67, R346). -/
def whenAligned (size : AccessSize) (addr : Word) (k : State → Result) (s : State) : Result :=
  if aligned size addr then k s else raise .memAddressNotAligned s

/-! ### Bus accesses -/

/-- The data space of the current mode (R71). -/
def State.dataAsi (s : State) : Asi := if s.psr.s then 0x0B#8 else 0x0A#8

/-- The instruction space of the current mode (R71). -/
def State.fetchAsi (s : State) : Asi := if s.psr.s then 0x09#8 else 0x08#8

/-- The environment's answer to the next data access. -/
def State.nextAnswer (s : State) : BusAnswer := s.pins.dataAnswers.headD .ready

/-- The next data access has had its answer. -/
def State.popAnswer (s : State) : State :=
  { s with pins := { s.pins with dataAnswers := s.pins.dataAnswers.tail } }

/-- The data a load of this step takes has wrong parity, and the IU checks it (R403, R405). -/
def State.badLoadParity (s : State) : Bool := s.cfg.parityInEnabled && s.pins.loadParity

/-- What a load of this step takes is bad: wrong parity, or the late error reported for it (R399, R403). -/
def State.loadSuspect (s : State) : Bool := s.badLoadParity || s.pins.errors.contains .restartableLate

/-- The 32 data lines of a device that answers a read, free where the environment gives none (R429). -/
def fromDevice (given : Option Word) (s : State) : Word × State :=
  match given with
  | some v => (v, s)
  | none => (Config.freeWord s.draws, s.drawn)

/-- The memory system answers a read: storage with its bytes, a device with what it drives (R73, R429). -/
def answerRead (given : Option Word) (asi : Asi) (addr : Word) (size : AccessSize) (s : State) : Access :=
  match regionKind s.platform asi addr with
  | .ram => .ok (readValue s.platform s.mem asi addr size) s
  | .rom => .ok (readValue s.platform s.mem asi addr size) s
  | .device => .ok (fromLanes size addr (fromDevice given s).1) (fromDevice given s).2
  | .absent => .exception s

/-- The IU takes the data of a read: bad data is free (R399). -/
def takeData (size : AccessSize) (addr : Word) (x : Access) : Access :=
  match x with
  | .ok v s =>
    if s.loadSuspect then .ok (fromLanes size addr (Config.freeWord s.draws)) { s.drawn with badLoad := true } else .ok v s
  | .exception s => .exception s
  | .reset s => .reset s

/-- One read transaction (R15, R77, R79). -/
def busRead (asi : Asi) (addr : Word) (size : AccessSize) (locked atomic : Bool) (s : State) : Access :=
  let seen := s.popAnswer.emit (.bus { kind := .read, asi, addr, size, data := none, locked, atomic })
  match s.nextAnswer with
  | .reset => .reset s.popAnswer
  | .mexc => .exception seen
  | .ready => takeData size addr (answerRead none asi addr size seen)
  | .data v => takeData size addr (answerRead (some v) asi addr size seen)

/-- Memory with the bytes of a store written, and the record of what they held before (R60, D8). -/
def State.storeBytes (s : State) (asi : Asi) (addr : Word) (size : AccessSize) (v : Word) : State :=
  let cells := cellsAt s.platform asi addr (storedBytes size v)
  { s with
    mem := writeCells s.mem cells
    wrote := cells.map (fun c => (c.1, readCell s.mem c.1)) ++ s.wrote }

/-- The memory system answers a write: storage takes the bytes, a device takes the write (R73, R429). -/
def answerWrite (asi : Asi) (addr : Word) (size : AccessSize) (v : Word) (s : State) : Access :=
  match regionKind s.platform asi addr with
  | .ram => .ok 0#32 (s.storeBytes asi addr size v)
  | .rom => .exception s
  | .device => .ok 0#32 s
  | .absent => .exception s

/-- One write transaction: refused, it leaves memory unchanged (R15, R77, R80). -/
def busWrite (asi : Asi) (addr : Word) (size : AccessSize) (v : Word) (atomic : Bool) (s : State) : Access :=
  let seen := s.popAnswer.emit (.bus
    { kind := .write, asi, addr, size, data := some (busLanes size v), locked := true, atomic })
  match s.nextAnswer with
  | .reset => .reset s.popAnswer
  | .mexc => .exception seen
  | .ready => answerWrite asi addr size v seen
  | .data _ => answerWrite asi addr size v seen

/-- What follows a data access: `onExc` when the memory system refused it, `k` when it succeeded; RESET cuts the
instruction off (D21). -/
def Access.andThen (x : Access) (onExc : State → Result) (k : Word → State → Result) : Result :=
  match x with
  | .ok v s => k v s
  | .exception s => onExc s
  | .reset s => .next s.enterReset

/-- A load of one access: `finish` writes the value and ends the instruction (R122). -/
def loadOne (size : AccessSize) (asi : Asi) (addr : Word) (finish : Word → State → State) (s : State) : Result :=
  (busRead asi addr size false false s).andThen (raise .dataAccess) fun v s => .next (finish v s)

/-- A load of a doubleword: the word at `addr` and then the one at `addr + 4`, locked (R77, R132). `onExc` is what a
refused access leads to. -/
def loadTwo (asi : Asi) (addr : Word) (onExc : State → Result) (finish : Word → Word → State → State) (s : State) :
    Result :=
  (busRead asi addr .double true false s).andThen onExc fun hi s =>
    (busRead asi (addr + 4#32) .double true false s).andThen onExc fun lo s => .next (finish hi lo s)

/-- A store of one access: refused, memory is unchanged (R123, R80). -/
def storeOne (size : AccessSize) (asi : Asi) (addr v : Word) (finish : State → State) (s : State) : Result :=
  (busWrite asi addr size v false s).andThen (raise .dataAccess) fun _ s => .next (finish s)

/-- What a refused second word of a doubleword store leads to: the first word keeps its new value or has its old one,
free (R80, D11). `before` is the memory before the store. -/
def secondWordRefused (before : List Host.Cell) (s : State) : Result :=
  raise .dataAccess { s.drawn with mem := if Config.freeBool s.draws then s.mem else before }

/-- A store of a doubleword: `hi` at `addr` and then `lo` at `addr + 4`, locked (R77, R136). -/
def storeTwo (asi : Asi) (addr hi lo : Word) (finish : State → State) (s : State) : Result :=
  (busWrite asi addr .double hi false s).andThen (raise .dataAccess) fun _ s' =>
    (busWrite asi (addr + 4#32) .double lo false s').andThen (secondWordRefused s.mem) fun _ s'' =>
      .next (finish s'')

/-- An atomic load-store: a read and a write of one place with LOCK and LDSTO asserted; refused in either part it
changes nothing (R83, R137, R138, R154, D13). -/
def loadStore (size : AccessSize) (asi : Asi) (addr v : Word) (finish : Word → State → State) (s : State) : Result :=
  (busRead asi addr size true true s).andThen (raise .dataAccess) fun old s =>
    (busWrite asi addr size v true s).andThen (raise .dataAccess) fun _ s => .next (finish old s)

end Sys2Proof.Machine
end

