-- ==== Sys2Proof/Machine/Operands.lean ====
section
/-! DEFINITION. Operand forms: second operands, shift counts, effective addresses, immediates and targets
(30_encoding.md R95, R96; 00_scope.md R17; 43_control_transfer.md R244). -/

namespace Sys2Proof.Machine

/-- `operand2`: r[rs2], or simm13 sign-extended (R17, R95). -/
def operand2 (o : Operand2) (s : State) : Word :=
  match o with
  | .reg rs2 => s.reg rs2
  | .imm simm13 => simm13.signExtend 32

/-- The shift count, 0 to 31: the low five bits of r[rs2], or of the instruction (R220). -/
def shiftCount (c : ShiftCount) (s : State) : Nat :=
  match c with
  | .reg rs2 => ((s.reg rs2).extractLsb' 0 5).toNat
  | .imm shcnt => shcnt.toNat

/-- `ea`: r[rs1] + operand2, modulo 2^32 (R17, R120, D2). -/
def effectiveAddress (rs1 : Reg) (o : Operand2) (s : State) : Word := s.reg rs1 + operand2 o s

/-- The address of an alternate-space access: r[rs1] + r[rs2] (R139). -/
def alternateAddress (rs1 rs2 : Reg) (s : State) : Word := s.reg rs1 + s.reg rs2

/-- The value SETHI loads: imm22 in bits 31:10 (R95, R226). -/
def sethiValue (imm22 : BitVec 22) : Word := imm22 ++ 0#10

/-- A branch displacement in bytes, sign-extended (R95, R244). -/
def branchDisplacement (disp22 : BitVec 22) : Word := (disp22 ++ 0#2).signExtend 32

/-- The target of a branch: relative to the address of the branch itself (R244). -/
def branchTarget (disp22 : BitVec 22) (s : State) : Word := s.pc + branchDisplacement disp22

/-- The target of a CALL (R244, R259). -/
def callTarget (disp30 : BitVec 30) (s : State) : Word := s.pc + (disp30 ++ 0#2)

/-- The value a WR instruction writes: the exclusive or of its operands (R281). -/
def writeValue (rs1 : Reg) (o : Operand2) (s : State) : Word := s.reg rs1 ^^^ operand2 o s

/-- A byte sign-extended (R64). -/
def sextByte (v : Word) : Word := (v.extractLsb' 0 8).signExtend 32

/-- A halfword sign-extended (R64). -/
def sextHalf (v : Word) : Word := (v.extractLsb' 0 16).signExtend 32

end Sys2Proof.Machine
end

