-- ==== Sys2Proof/Machine/Load.lean ====
section
/-! DEFINITION. Integer loads (40_load_store.md R120 to R132). -/

namespace Sys2Proof.Machine

/-- The end of an integer load: r[rd] takes the value (R122). -/
def putReg (rd : Reg) (v : Word) (s : State) : State := (s.setReg rd v).advance

/-- The end of an integer doubleword load (R126, R132). -/
def putPair (rd : Reg) (hi lo : Word) (s : State) : State :=
  ((s.setReg (evenReg rd) hi).setReg (oddReg rd) lo).advance

/-- A load of one access at `ea` in `asi` (R122). -/
def loadReg (size : AccessSize) (asi : Asi) (ea : Word) (finish : Word → State → State) (s : State) : Result :=
  whenAligned size ea (loadOne size asi ea finish) s

/-- A doubleword load at `ea` in `asi`: refused in either word it writes neither register (R132, D13). -/
def loadPair (asi : Asi) (ea : Word) (rd : Reg) (s : State) : Result :=
  whenAligned .double ea (loadTwo asi ea (raise .dataAccess) (putPair rd)) s

/-- LDSB (R127). -/
def execLdsb (rd : Reg) (rs1 : Reg) (o2 : Operand2) (s : State) : Result :=
  loadReg .byte s.dataAsi (effectiveAddress rs1 o2 s) (fun v => putReg rd (sextByte v)) s

/-- LDSH (R128). -/
def execLdsh (rd : Reg) (rs1 : Reg) (o2 : Operand2) (s : State) : Result :=
  loadReg .half s.dataAsi (effectiveAddress rs1 o2 s) (fun v => putReg rd (sextHalf v)) s

/-- LDUB (R129). -/
def execLdub (rd : Reg) (rs1 : Reg) (o2 : Operand2) (s : State) : Result :=
  loadReg .byte s.dataAsi (effectiveAddress rs1 o2 s) (putReg rd) s

/-- LDUH (R130). -/
def execLduh (rd : Reg) (rs1 : Reg) (o2 : Operand2) (s : State) : Result :=
  loadReg .half s.dataAsi (effectiveAddress rs1 o2 s) (putReg rd) s

/-- LD (R131). -/
def execLd (rd : Reg) (rs1 : Reg) (o2 : Operand2) (s : State) : Result :=
  loadReg .word s.dataAsi (effectiveAddress rs1 o2 s) (putReg rd) s

/-- LDD (R132). -/
def execLdd (rd : Reg) (rs1 : Reg) (o2 : Operand2) (s : State) : Result :=
  loadPair s.dataAsi (effectiveAddress rs1 o2 s) rd s

end Sys2Proof.Machine
end

