-- ==== Sys2Proof/Machine/Atomic.lean ====
section
/-! DEFINITION. The atomic load-stores (40_load_store.md R137, R138, R154). -/

namespace Sys2Proof.Machine

/-- Atomic load-store unsigned byte at `ea` in `asi` (R137). -/
def loadStoreByte (asi : Asi) (ea : Word) (rd : Reg) (s : State) : Result :=
  loadStore .byte asi ea 0xFF#32 (putReg rd) s

/-- Swap of r[rd] with the word at `ea` in `asi` (R138). -/
def swapWord (asi : Asi) (ea : Word) (rd : Reg) (s : State) : Result :=
  whenAligned .word ea (loadStore .word asi ea (s.reg rd) (putReg rd)) s

/-- LDSTUB (R137). -/
def execLdstub (rd : Reg) (rs1 : Reg) (o2 : Operand2) (s : State) : Result :=
  loadStoreByte s.dataAsi (effectiveAddress rs1 o2 s) rd s

/-- SWAP (R138). -/
def execSwap (rd : Reg) (rs1 : Reg) (o2 : Operand2) (s : State) : Result :=
  swapWord s.dataAsi (effectiveAddress rs1 o2 s) rd s

end Sys2Proof.Machine
end

