-- ==== Sys2Proof/Machine/Store.lean ====
section
/-! DEFINITION. Integer stores (40_load_store.md R123, R133 to R136). -/

namespace Sys2Proof.Machine

/-- A store of one access at `ea` in `asi` (R123). -/
def storeReg (size : AccessSize) (asi : Asi) (ea : Word) (rd : Reg) (s : State) : Result :=
  whenAligned size ea (storeOne size asi ea (s.reg rd) State.advance) s

/-- A doubleword store at `ea` in `asi` (R126, R136, D9). -/
def storePair (asi : Asi) (ea : Word) (rd : Reg) (s : State) : Result :=
  whenAligned .double ea (storeTwo asi ea (s.reg (evenReg rd)) (s.reg (oddReg rd)) State.advance) s

/-- STB (R133). -/
def execStb (rd : Reg) (rs1 : Reg) (o2 : Operand2) (s : State) : Result :=
  storeReg .byte s.dataAsi (effectiveAddress rs1 o2 s) rd s

/-- STH (R134). -/
def execSth (rd : Reg) (rs1 : Reg) (o2 : Operand2) (s : State) : Result :=
  storeReg .half s.dataAsi (effectiveAddress rs1 o2 s) rd s

/-- ST (R135). -/
def execSt (rd : Reg) (rs1 : Reg) (o2 : Operand2) (s : State) : Result :=
  storeReg .word s.dataAsi (effectiveAddress rs1 o2 s) rd s

/-- STD (R136). -/
def execStd (rd : Reg) (rs1 : Reg) (o2 : Operand2) (s : State) : Result :=
  storePair s.dataAsi (effectiveAddress rs1 o2 s) rd s

end Sys2Proof.Machine
end

