-- ==== Sys2Proof/Machine/Alternate.lean ====
section
/-! DEFINITION. The alternate-space loads, stores and atomics: privileged, with the address r[rs1] + r[rs2] and the ASI of the
instruction (40_load_store.md R139 to R151). The forms with i = 1 are refused by the decoder as illegal (R107). -/

namespace Sys2Proof.Machine

/-- LDSBA (R140). -/
def execLdsba (rd : Reg) (rs1 : Reg) (rs2 : Reg) (asi : Asi) (s : State) : Result :=
  privileged (loadReg .byte asi (alternateAddress rs1 rs2 s) (fun v => putReg rd (sextByte v))) s

/-- LDSHA (R141). -/
def execLdsha (rd : Reg) (rs1 : Reg) (rs2 : Reg) (asi : Asi) (s : State) : Result :=
  privileged (loadReg .half asi (alternateAddress rs1 rs2 s) (fun v => putReg rd (sextHalf v))) s

/-- LDUBA (R142). -/
def execLduba (rd : Reg) (rs1 : Reg) (rs2 : Reg) (asi : Asi) (s : State) : Result :=
  privileged (loadReg .byte asi (alternateAddress rs1 rs2 s) (putReg rd)) s

/-- LDUHA (R143). -/
def execLduha (rd : Reg) (rs1 : Reg) (rs2 : Reg) (asi : Asi) (s : State) : Result :=
  privileged (loadReg .half asi (alternateAddress rs1 rs2 s) (putReg rd)) s

/-- LDA (R144). -/
def execLda (rd : Reg) (rs1 : Reg) (rs2 : Reg) (asi : Asi) (s : State) : Result :=
  privileged (loadReg .word asi (alternateAddress rs1 rs2 s) (putReg rd)) s

/-- LDDA (R145). -/
def execLdda (rd : Reg) (rs1 : Reg) (rs2 : Reg) (asi : Asi) (s : State) : Result :=
  privileged (loadPair asi (alternateAddress rs1 rs2 s) rd) s

/-- STBA (R146). -/
def execStba (rd : Reg) (rs1 : Reg) (rs2 : Reg) (asi : Asi) (s : State) : Result :=
  privileged (storeReg .byte asi (alternateAddress rs1 rs2 s) rd) s

/-- STHA (R147). -/
def execStha (rd : Reg) (rs1 : Reg) (rs2 : Reg) (asi : Asi) (s : State) : Result :=
  privileged (storeReg .half asi (alternateAddress rs1 rs2 s) rd) s

/-- STA (R148). -/
def execSta (rd : Reg) (rs1 : Reg) (rs2 : Reg) (asi : Asi) (s : State) : Result :=
  privileged (storeReg .word asi (alternateAddress rs1 rs2 s) rd) s

/-- STDA (R149). -/
def execStda (rd : Reg) (rs1 : Reg) (rs2 : Reg) (asi : Asi) (s : State) : Result :=
  privileged (storePair asi (alternateAddress rs1 rs2 s) rd) s

/-- LDSTUBA (R150). -/
def execLdstuba (rd : Reg) (rs1 : Reg) (rs2 : Reg) (asi : Asi) (s : State) : Result :=
  privileged (loadStoreByte asi (alternateAddress rs1 rs2 s) rd) s

/-- SWAPA (R151). -/
def execSwapa (rd : Reg) (rs1 : Reg) (rs2 : Reg) (asi : Asi) (s : State) : Result :=
  privileged (swapWord asi (alternateAddress rs1 rs2 s) rd) s

end Sys2Proof.Machine
end

