-- ==== Sys2Proof/Machine/Flags.lean ====
section
/-! DEFINITION. The integer condition codes of every family (42_arith_logic_shift.md R191 to R194) and the conditions
of branches and traps (43_control_transfer.md R246, R251, R254). -/

namespace Sys2Proof.Machine

/-- a + b + cin modulo 2^32. -/
def addResult (a b : Word) (cin : Bool) : Word := a + b + (BitVec.ofBool cin).setWidth 32

/-- a - b - cin modulo 2^32. -/
def subResult (a b : Word) (cin : Bool) : Word := a - b - (BitVec.ofBool cin).setWidth 32

/-- N and Z of a result, with the given V and C (R191). -/
def iccOf (res : Word) (v c : Bool) : Icc := { n := res.msb, z := res == 0#32, v, c }

/-- V of an addition (R192). -/
def addOverflow (a b : Word) (cin : Bool) : Bool := a.msb == b.msb && (addResult a b cin).msb != a.msb

/-- C of an addition: the carry out of bit 31 (R192). -/
def addCarry (a b : Word) (cin : Bool) : Bool := decide (2 ^ 32 ≤ a.toNat + b.toNat + cin.toNat)

/-- V of a subtraction (R193). -/
def subOverflow (a b : Word) (cin : Bool) : Bool := a.msb != b.msb && (subResult a b cin).msb != a.msb

/-- C of a subtraction: the borrow into bit 31 (R193). -/
def subBorrow (a b : Word) (cin : Bool) : Bool := decide (a.toNat < b.toNat + cin.toNat)

/-- Either operand has a nonzero tag (R194). -/
def tagged (a b : Word) : Bool := a.extractLsb' 0 2 != 0#2 || b.extractLsb' 0 2 != 0#2

/-- icc of an addition (R191, R192). -/
def addIcc (a b : Word) (cin : Bool) : Icc := iccOf (addResult a b cin) (addOverflow a b cin) (addCarry a b cin)

/-- icc of a subtraction (R191, R193). -/
def subIcc (a b : Word) (cin : Bool) : Icc := iccOf (subResult a b cin) (subOverflow a b cin) (subBorrow a b cin)

/-- icc of a logical instruction: V and C are 0 (R194). -/
def logicIcc (res : Word) : Icc := iccOf res false false

/-- V of a tagged addition (R194). -/
def taggedAddOverflow (a b : Word) : Bool := addOverflow a b false || tagged a b

/-- V of a tagged subtraction (R194). -/
def taggedSubOverflow (a b : Word) : Bool := subOverflow a b false || tagged a b

/-- icc of TADDcc (R203). -/
def taggedAddIcc (a b : Word) : Icc :=
  iccOf (addResult a b false) (taggedAddOverflow a b) (addCarry a b false)

/-- icc of TSUBcc (R205). -/
def taggedSubIcc (a b : Word) : Icc :=
  iccOf (subResult a b false) (taggedSubOverflow a b) (subBorrow a b false)

/-- The integer condition of a cond field (R246). -/
def testIcc (cond : BitVec 4) (f : Icc) : Bool :=
  match cond with
  | 0b0000#4 => false
  | 0b0001#4 => f.z
  | 0b0010#4 => f.z || (f.n ^^ f.v)
  | 0b0011#4 => f.n ^^ f.v
  | 0b0100#4 => f.c || f.z
  | 0b0101#4 => f.c
  | 0b0110#4 => f.n
  | 0b0111#4 => f.v
  | 0b1000#4 => true
  | 0b1001#4 => !f.z
  | 0b1010#4 => !(f.z || (f.n ^^ f.v))
  | 0b1011#4 => !(f.n ^^ f.v)
  | 0b1100#4 => !(f.c || f.z)
  | 0b1101#4 => !f.c
  | 0b1110#4 => !f.n
  | _ => !f.v

/-- The floating-point condition of a cond field; fcc is 0 for E, 1 for L, 2 for G, 3 for U (R251). -/
def testFcc (cond : BitVec 4) (fcc : BitVec 2) : Bool :=
  let e := fcc == 0#2
  let l := fcc == 1#2
  let g := fcc == 2#2
  let u := fcc == 3#2
  match cond with
  | 0b0000#4 => false
  | 0b0001#4 => l || g || u
  | 0b0010#4 => l || g
  | 0b0011#4 => l || u
  | 0b0100#4 => l
  | 0b0101#4 => g || u
  | 0b0110#4 => g
  | 0b0111#4 => u
  | 0b1000#4 => true
  | 0b1001#4 => e
  | 0b1010#4 => e || u
  | 0b1011#4 => e || g
  | 0b1100#4 => e || g || u
  | 0b1101#4 => e || l
  | 0b1110#4 => e || l || u
  | _ => e || l || g

/-- The coprocessor condition of a cond field, over ccc as a number 0 to 3 (R254). -/
def testCcc (cond : BitVec 4) (ccc : BitVec 2) : Bool :=
  let is (k : BitVec 2) := ccc == k
  match cond with
  | 0b0000#4 => false
  | 0b0001#4 => is 1#2 || is 2#2 || is 3#2
  | 0b0010#4 => is 1#2 || is 2#2
  | 0b0011#4 => is 1#2 || is 3#2
  | 0b0100#4 => is 1#2
  | 0b0101#4 => is 2#2 || is 3#2
  | 0b0110#4 => is 2#2
  | 0b0111#4 => is 3#2
  | 0b1000#4 => true
  | 0b1001#4 => is 0#2
  | 0b1010#4 => is 0#2 || is 3#2
  | 0b1011#4 => is 0#2 || is 2#2
  | 0b1100#4 => is 0#2 || is 2#2 || is 3#2
  | 0b1101#4 => is 0#2 || is 1#2
  | 0b1110#4 => is 0#2 || is 1#2 || is 3#2
  | _ => is 0#2 || is 1#2 || is 2#2

end Sys2Proof.Machine
end

