-- ==== Sys2Proof/Machine/Arith.lean ====
section
/-! DEFINITION. Integer arithmetic: add, subtract, tagged, multiply step (42_arith_logic_shift.md R195 to R207). -/

namespace Sys2Proof.Machine

/-- ADD (R195). -/
def execAdd (rd : Reg) (rs1 : Reg) (o2 : Operand2) (s : State) : Result :=
  writeReg rd (s.reg rs1 + operand2 o2 s) s

/-- ADDcc (R196). -/
def execAddcc (rd : Reg) (rs1 : Reg) (o2 : Operand2) (s : State) : Result :=
  writeRegCc rd (s.reg rs1 + operand2 o2 s) (addIcc (s.reg rs1) (operand2 o2 s) false) s

/-- ADDX (R197). -/
def execAddx (rd : Reg) (rs1 : Reg) (o2 : Operand2) (s : State) : Result :=
  writeReg rd (addResult (s.reg rs1) (operand2 o2 s) s.psr.icc.c) s

/-- ADDXcc (R198). -/
def execAddxcc (rd : Reg) (rs1 : Reg) (o2 : Operand2) (s : State) : Result :=
  writeRegCc rd (addResult (s.reg rs1) (operand2 o2 s) s.psr.icc.c) (addIcc (s.reg rs1) (operand2 o2 s) s.psr.icc.c) s

/-- SUB (R199). -/
def execSub (rd : Reg) (rs1 : Reg) (o2 : Operand2) (s : State) : Result :=
  writeReg rd (s.reg rs1 - operand2 o2 s) s

/-- SUBcc (R200). -/
def execSubcc (rd : Reg) (rs1 : Reg) (o2 : Operand2) (s : State) : Result :=
  writeRegCc rd (s.reg rs1 - operand2 o2 s) (subIcc (s.reg rs1) (operand2 o2 s) false) s

/-- SUBX (R201). -/
def execSubx (rd : Reg) (rs1 : Reg) (o2 : Operand2) (s : State) : Result :=
  writeReg rd (subResult (s.reg rs1) (operand2 o2 s) s.psr.icc.c) s

/-- SUBXcc (R202). -/
def execSubxcc (rd : Reg) (rs1 : Reg) (o2 : Operand2) (s : State) : Result :=
  writeRegCc rd (subResult (s.reg rs1) (operand2 o2 s) s.psr.icc.c) (subIcc (s.reg rs1) (operand2 o2 s) s.psr.icc.c) s

/-- TADDcc (R203). -/
def execTaddcc (rd : Reg) (rs1 : Reg) (o2 : Operand2) (s : State) : Result :=
  writeRegCc rd (s.reg rs1 + operand2 o2 s) (taggedAddIcc (s.reg rs1) (operand2 o2 s)) s

/-- TADDccTV (R204): on overflow nothing is written. -/
def execTaddcctv (rd : Reg) (rs1 : Reg) (o2 : Operand2) (s : State) : Result :=
  if taggedAddOverflow (s.reg rs1) (operand2 o2 s) then raise .tagOverflow s
  else writeRegCc rd (s.reg rs1 + operand2 o2 s) (taggedAddIcc (s.reg rs1) (operand2 o2 s)) s

/-- TSUBcc (R205). -/
def execTsubcc (rd : Reg) (rs1 : Reg) (o2 : Operand2) (s : State) : Result :=
  writeRegCc rd (s.reg rs1 - operand2 o2 s) (taggedSubIcc (s.reg rs1) (operand2 o2 s)) s

/-- TSUBccTV (R206): on overflow nothing is written. -/
def execTsubcctv (rd : Reg) (rs1 : Reg) (o2 : Operand2) (s : State) : Result :=
  if taggedSubOverflow (s.reg rs1) (operand2 o2 s) then raise .tagOverflow s
  else writeRegCc rd (s.reg rs1 - operand2 o2 s) (taggedSubIcc (s.reg rs1) (operand2 o2 s)) s

/-- The first operand of a multiply step: r[rs1] shifted right, N xor V entering (R207). -/
def mulStepOperand (a : Word) (f : Icc) : Word := BitVec.ofBool (f.n ^^ f.v) ++ a.extractLsb' 1 31

/-- The second operand of a multiply step: operand2 where Y[0] is 1, else 0 (R207). -/
def mulStepAddend (b y : Word) : Word := if y.getLsbD 0 then b else 0#32

/-- Y after a multiply step (R207). -/
def mulStepY (a y : Word) : Word := a.extractLsb' 0 1 ++ y.extractLsb' 1 31

/-- MULScc (R207). -/
def execMulscc (rd : Reg) (rs1 : Reg) (o2 : Operand2) (s : State) : Result :=
  let op1 := mulStepOperand (s.reg rs1) s.psr.icc
  let op2 := mulStepAddend (operand2 o2 s) s.y
  writeRegCc rd (op1 + op2) (addIcc op1 op2 false) { s with y := mulStepY (s.reg rs1) s.y }

end Sys2Proof.Machine
end

