-- ==== Sys2Proof/Machine/Branch.lean ====
section
/-! DEFINITION. Delayed control transfer by condition, and Bicc (43_control_transfer.md R240 to R247). -/

namespace Sys2Proof.Machine

/-- A conditional branch whose decision is `taken` (R242, R245); `always` is cond = 1000. Only a branch other than B*A
marks its delay instruction for R257. -/
def State.branch (s : State) (always taken a : Bool) (disp22 : BitVec 22) : State :=
  { s.transfer (if taken then branchTarget disp22 s else s.npc + 4#32) with
    annulNext := a && (always || !taken)
    condDelay := !always }

/-- Bicc with the given cond field (R245, R247). -/
def bicc (cond : BitVec 4) (a : Bool) (disp22 : BitVec 22) (s : State) : Result :=
  .next (s.branch (cond == 0b1000#4) (testIcc cond s.psr.icc) a disp22)

/-- BN (R247). -/
def execBn (a : Bool) (disp22 : BitVec 22) (s : State) : Result := bicc 0b0000#4 a disp22 s

/-- BE (R247). -/
def execBe (a : Bool) (disp22 : BitVec 22) (s : State) : Result := bicc 0b0001#4 a disp22 s

/-- BLE (R247). -/
def execBle (a : Bool) (disp22 : BitVec 22) (s : State) : Result := bicc 0b0010#4 a disp22 s

/-- BL (R247). -/
def execBl (a : Bool) (disp22 : BitVec 22) (s : State) : Result := bicc 0b0011#4 a disp22 s

/-- BLEU (R247). -/
def execBleu (a : Bool) (disp22 : BitVec 22) (s : State) : Result := bicc 0b0100#4 a disp22 s

/-- BCS (R247). -/
def execBcs (a : Bool) (disp22 : BitVec 22) (s : State) : Result := bicc 0b0101#4 a disp22 s

/-- BNEG (R247). -/
def execBneg (a : Bool) (disp22 : BitVec 22) (s : State) : Result := bicc 0b0110#4 a disp22 s

/-- BVS (R247). -/
def execBvs (a : Bool) (disp22 : BitVec 22) (s : State) : Result := bicc 0b0111#4 a disp22 s

/-- BA (R247). -/
def execBa (a : Bool) (disp22 : BitVec 22) (s : State) : Result := bicc 0b1000#4 a disp22 s

/-- BNE (R247). -/
def execBne (a : Bool) (disp22 : BitVec 22) (s : State) : Result := bicc 0b1001#4 a disp22 s

/-- BG (R247). -/
def execBg (a : Bool) (disp22 : BitVec 22) (s : State) : Result := bicc 0b1010#4 a disp22 s

/-- BGE (R247). -/
def execBge (a : Bool) (disp22 : BitVec 22) (s : State) : Result := bicc 0b1011#4 a disp22 s

/-- BGU (R247). -/
def execBgu (a : Bool) (disp22 : BitVec 22) (s : State) : Result := bicc 0b1100#4 a disp22 s

/-- BCC (R247). -/
def execBcc (a : Bool) (disp22 : BitVec 22) (s : State) : Result := bicc 0b1101#4 a disp22 s

/-- BPOS (R247). -/
def execBpos (a : Bool) (disp22 : BitVec 22) (s : State) : Result := bicc 0b1110#4 a disp22 s

/-- BVC (R247). -/
def execBvc (a : Bool) (disp22 : BitVec 22) (s : State) : Result := bicc 0b1111#4 a disp22 s

end Sys2Proof.Machine
end

