-- ==== Sys2Proof/Machine/ControlRegs.lean ====
section
/-! DEFINITION. Reading and writing the control registers (44_control_registers.md). -/

namespace Sys2Proof.Machine

/-- RDY (R285). -/
def execRdy (rd : Reg) (s : State) : Result :=
  writeReg rd s.y s

/-- RDPSR (R282). -/
def execRdpsr (rd : Reg) (s : State) : Result :=
  privileged (writeReg rd s.psr.toWord) s

/-- RDWIM (R283). -/
def execRdwim (rd : Reg) (s : State) : Result :=
  privileged (writeReg rd s.wimWord) s

/-- RDTBR (R284). -/
def execRdtbr (rd : Reg) (s : State) : Result :=
  privileged (writeReg rd s.tbr) s

/-- WRY (R291). -/
def execWry (rs1 : Reg) (o2 : Operand2) (s : State) : Result :=
  .next { s with y := writeValue rs1 o2 s }.advance

/-- WRPSR (R286): a CWP of 8 or more is illegal before the privilege is checked (R287). -/
def execWrpsr (rs1 : Reg) (o2 : Operand2) (s : State) : Result :=
  let v := writeValue rs1 o2 s
  if v.extractLsb' 3 2 != 0#2 then raise .illegalInstruction s
  else privileged (fun s => .next { s with psr := PSR.ofWord v }.advance) s

/-- WRWIM (R289). -/
def execWrwim (rs1 : Reg) (o2 : Operand2) (s : State) : Result :=
  privileged (fun s => .next { s with wim := (writeValue rs1 o2 s).extractLsb' 0 8 }.advance) s

/-- WRTBR (R290). -/
def execWrtbr (rs1 : Reg) (o2 : Operand2) (s : State) : Result :=
  privileged (fun s => .next { s with tba := (writeValue rs1 o2 s).extractLsb' 12 20 }.advance) s

end Sys2Proof.Machine
end

