-- ==== Sys2Proof/Machine/Units.lean ====
section
/-! DEFINITION. What the IU checks before it uses an attached unit (60_exceptions.md R341 to R344, 41_load_store_fp_cp.md R161),
the units' registers, how a unit recognises an exception, and what it makes of an instruction in exception mode. -/

namespace Sys2Proof.Machine

/-- The FPU is enabled and present (R341). -/
def State.fpEnabled (s : State) : Bool := s.psr.ef && s.cfg.fpPresent

/-- The coprocessor is enabled and present (R342). -/
def State.cpEnabled (s : State) : Bool := s.psr.ec && s.cfg.cpPresent

/-- A floating-point instruction raises fp_disabled unless the FPU is enabled and present (R341). -/
def withFp (k : State → Result) (s : State) : Result :=
  if s.fpEnabled then k s else raise .fpDisabled s

/-- A coprocessor instruction raises cp_disabled unless the coprocessor is enabled and present (R342). -/
def withCp (k : State → Result) (s : State) : Result :=
  if s.cpEnabled then k s else raise .cpDisabled s

/-- The FPU is handed the instruction (FINS): with an exception pending the IU takes fp_exception instead (R343). -/
def launchFp (k : State → Result) (s : State) : Result :=
  if s.fpu.excPending then raise .fpException s else k (s.emit (.launchFp s.ir s.pc))

/-- The coprocessor is handed the instruction (CINS), as `launchFp` (R344, R309). -/
def launchCp (k : State → Result) (s : State) : Result :=
  if s.cp.excPending then raise .cpException s else k (s.emit (.launchCp s.ir s.pc))

/-- `f[r]` (R49). -/
def State.freg (s : State) (r : Reg) : Word := s.fpu.f[r.toNat]

/-- Writing `f[r]`. -/
def State.setFreg (s : State) (r : Reg) (v : Word) : State :=
  { s with fpu := { s.fpu with f := s.fpu.f.set r.toNat v r.isLt } }

/-- `c[r]` (R50). -/
def State.creg (s : State) (r : Reg) : Word := s.cp.c[r.toNat]

/-- Writing `c[r]`. -/
def State.setCreg (s : State) (r : Reg) (v : Word) : State :=
  { s with cp := { s.cp with c := s.cp.c.set r.toNat v r.isLt } }

/-! ### The condition codes in the status registers (R433) -/

/-- The word with its bit `k` put to `b`. -/
def putBit (w : Word) (k : Nat) (b : Bool) : Word := if b then w ||| (1#32 <<< k) else w &&& ~~~(1#32 <<< k)

/-- The place of the low bit of a condition code. -/
def lowPlace (place : Fin 32 × Fin 31) : Nat := (place.1.val + 1 + place.2.val) % 32

/-- The condition code in a status register value. -/
def codeOf (place : Fin 32 × Fin 31) (w : Word) : BitVec 2 :=
  BitVec.ofBool (w.getLsbD place.1.val) ++ BitVec.ofBool (w.getLsbD (lowPlace place))

/-- A status register value with the condition code `c`. -/
def withCode (place : Fin 32 × Fin 31) (c : BitVec 2) (w : Word) : Word :=
  putBit (putBit w place.1.val (c.getLsbD 1)) (lowPlace place) (c.getLsbD 0)

/-- The FSR: its condition code bits are those the FCC lines carry (R169, R433). -/
def fsrWord (u : Fpu) : Word := withCode Config.fccPlace u.fcc u.fsr

/-- The CSR: its condition code bits are those the CCC lines carry (R177, R433). -/
def csrWord (u : Coprocessor) : Word := withCode Config.cccPlace u.ccc u.csr

/-! ### A unit that recognises an exception (R55, R306, R309) -/

/-- The FPU recognises an exception with the given unfinished instructions, the one that caused it in front: they stay in
the queue, FEXC is asserted, and the FSR takes the exception type (R55, R306, R343). -/
def fpRecognises (unfinished : List (Word × Word)) (u : Fpu) : Fpu :=
  match unfinished with
  | [] => u
  | (addr, instr) :: rest =>
    { u with
      queue := u.queue ++ (addr, instr) :: rest, excPending := true, fsr := Config.fsrAfterException instr (fsrWord u) }

/-- The coprocessor recognises an exception, as `fpRecognises` (R50, R55, R309, R344). -/
def cpRecognises (unfinished : List (Word × Word)) (u : Coprocessor) : Coprocessor :=
  match unfinished with
  | [] => u
  | (addr, instr) :: rest =>
    { u with
      queue := u.queue ++ (addr, instr) :: rest, excPending := true, csr := Config.csrAfterException instr (csrWord u) }

/-! ### A unit in exception mode (R55, R306, R309) -/

/-- The FPU after an answer `v` that the source leaves open (N12): exception mode lasts and the entries of the queue stay in
front of it, since only STDFQ empties it (R55). -/
def fpKeepsMode (u v : Fpu) : Fpu := { v with excMode := true, queue := u.queue ++ v.queue }

/-- The same for the coprocessor (R309). -/
def cpKeepsMode (u v : Coprocessor) : Coprocessor := { v with excMode := true, queue := u.queue ++ v.queue }

/-- The end of a floating-point instruction: `ready` with a ready FPU; in exception mode the FPU's answer is free (N12,
log 12) and the IU goes on (R302). `data` are the words of a load. -/
def fpEnds (data : List Word) (ready : State → State) (s : State) : State :=
  if s.fpu.excMode then { s with fpu := fpKeepsMode s.fpu (Config.fpuUnready s.ir s.pc data s.fpu) }.advance else ready s

/-- Word `k` the FPU drives for a store: `v`, in exception mode a free word (N12). -/
def State.fpSupplies (s : State) (k : Nat) (v : Word) : Word :=
  if s.fpu.excMode then Config.fpuUnreadyWord s.ir s.pc s.fpu k else v

/-- The end of a coprocessor load or store, as `fpEnds` (R309, I18). -/
def cpEnds (data : List Word) (ready : State → State) (s : State) : State :=
  if s.cp.excMode then { s with cp := cpKeepsMode s.cp (Config.cpUnready s.ir s.pc data s.cp) }.advanceCp else ready s

/-- Word `k` the coprocessor drives for a store, as `State.fpSupplies`. -/
def State.cpSupplies (s : State) (k : Nat) (v : Word) : Word :=
  if s.cp.excMode then Config.cpUnreadyWord s.ir s.pc s.cp k else v

end Sys2Proof.Machine
end

