-- ==== Sys2Proof/Machine/CpBranch.lean ====
section
/-! DEFINITION. CBccc (43_control_transfer.md R253 to R255). -/

namespace Sys2Proof.Machine

/-- CBccc with the given cond field: cp_disabled, cp_exception, then the branch on CCC[1:0] (R253, R254). Where only
coprocessor instructions have executed since a coprocessor compare, the decision is free (R255). -/
def cbccc (cond : BitVec 4) (a : Bool) (disp22 : BitVec 22) (s : State) : Result :=
  withCp (fun s =>
    if s.cp.excPending then raise .cpException s
    else if s.cpCompare then
      .next { s.drawn.branch (cond == 0b1000#4) (Config.freeBool s.draws) a disp22 with cpCompare := true }
    else .next (s.branch (cond == 0b1000#4) (testCcc cond s.cp.ccc) a disp22)) s

/-- CBN (R254). -/
def execCbn (a : Bool) (disp22 : BitVec 22) (s : State) : Result := cbccc 0b0000#4 a disp22 s

/-- CB123 (R254). -/
def execCb123 (a : Bool) (disp22 : BitVec 22) (s : State) : Result := cbccc 0b0001#4 a disp22 s

/-- CB12 (R254). -/
def execCb12 (a : Bool) (disp22 : BitVec 22) (s : State) : Result := cbccc 0b0010#4 a disp22 s

/-- CB13 (R254). -/
def execCb13 (a : Bool) (disp22 : BitVec 22) (s : State) : Result := cbccc 0b0011#4 a disp22 s

/-- CB1 (R254). -/
def execCb1 (a : Bool) (disp22 : BitVec 22) (s : State) : Result := cbccc 0b0100#4 a disp22 s

/-- CB23 (R254). -/
def execCb23 (a : Bool) (disp22 : BitVec 22) (s : State) : Result := cbccc 0b0101#4 a disp22 s

/-- CB2 (R254). -/
def execCb2 (a : Bool) (disp22 : BitVec 22) (s : State) : Result := cbccc 0b0110#4 a disp22 s

/-- CB3 (R254). -/
def execCb3 (a : Bool) (disp22 : BitVec 22) (s : State) : Result := cbccc 0b0111#4 a disp22 s

/-- CBA (R254). -/
def execCba (a : Bool) (disp22 : BitVec 22) (s : State) : Result := cbccc 0b1000#4 a disp22 s

/-- CB0 (R254). -/
def execCb0 (a : Bool) (disp22 : BitVec 22) (s : State) : Result := cbccc 0b1001#4 a disp22 s

/-- CB03 (R254). -/
def execCb03 (a : Bool) (disp22 : BitVec 22) (s : State) : Result := cbccc 0b1010#4 a disp22 s

/-- CB02 (R254). -/
def execCb02 (a : Bool) (disp22 : BitVec 22) (s : State) : Result := cbccc 0b1011#4 a disp22 s

/-- CB023 (R254). -/
def execCb023 (a : Bool) (disp22 : BitVec 22) (s : State) : Result := cbccc 0b1100#4 a disp22 s

/-- CB01 (R254). -/
def execCb01 (a : Bool) (disp22 : BitVec 22) (s : State) : Result := cbccc 0b1101#4 a disp22 s

/-- CB013 (R254). -/
def execCb013 (a : Bool) (disp22 : BitVec 22) (s : State) : Result := cbccc 0b1110#4 a disp22 s

/-- CB012 (R254). -/
def execCb012 (a : Bool) (disp22 : BitVec 22) (s : State) : Result := cbccc 0b1111#4 a disp22 s

end Sys2Proof.Machine
end

