-- ==== Sys2Proof/Machine/CpMemory.lean ====
section
/-! DEFINITION. Coprocessor loads and stores (41_load_store_fp_cp.md R171 to R178). -/

namespace Sys2Proof.Machine

/-- The order of checks of a coprocessor load or store with a data access (R161, R171): disabled, alignment,
exception. -/
def cpMemory (size : AccessSize) (ea : Word) (access : State → Result) (s : State) : Result :=
  withCp (whenAligned size ea (launchCp access)) s

/-- The end of a coprocessor load of one register. -/
def putCreg (rd : Reg) (v : Word) (s : State) : State := (s.setCreg rd v).advanceCp

/-- The end of a coprocessor load of a register pair; the even register takes the first word (R162, D9). -/
def putCregPair (rd : Reg) (hi lo : Word) (s : State) : State :=
  ((s.setCreg (evenReg rd) hi).setCreg (oddReg rd) lo).advanceCp

/-- A refused coprocessor doubleword load leaves the pair free: what the unit does is not in the source (R165, N14). -/
def cpPairRefused (rd : Reg) (s : State) : Result :=
  raise .dataAccess ((s.drawn.drawn.setCreg (evenReg rd) (Config.freeWord s.draws)).setCreg (oddReg rd)
    (Config.freeWord (s.draws + 1)))

/-- The end of LDCSR, which writes the condition codes with the rest (R174, C13). -/
def putCsr (v : Word) (s : State) : State :=
  { s.advanceCp with cp := { s.cp with csr := v, ccc := codeOf Config.cccPlace v } }

/-- The end of STDCQ: the front entry leaves the queue, and with the last one exception mode ends (R55, R178). -/
def dropCpQueue (s : State) : State :=
  { s.advanceCp with cp := { s.cp with
      queue := s.cp.queue.tail, excMode := s.cp.excMode && !s.cp.queue.tail.isEmpty } }

/-- LDC (R172). -/
def execLdc (rd : Reg) (rs1 : Reg) (o2 : Operand2) (s : State) : Result :=
  let ea := effectiveAddress rs1 o2 s
  cpMemory .word ea (loadOne .word s.dataAsi ea (fun v => cpEnds [v] (putCreg rd v))) s

/-- LDDC (R173). -/
def execLddc (rd : Reg) (rs1 : Reg) (o2 : Operand2) (s : State) : Result :=
  let ea := effectiveAddress rs1 o2 s
  cpMemory .double ea
    (loadTwo s.dataAsi ea (cpPairRefused rd) (fun hi lo => cpEnds [hi, lo] (putCregPair rd hi lo))) s

/-- LDCSR (R174). -/
def execLdcsr (rs1 : Reg) (o2 : Operand2) (s : State) : Result :=
  let ea := effectiveAddress rs1 o2 s
  cpMemory .word ea (loadOne .word s.dataAsi ea (fun v => cpEnds [v] (putCsr v))) s

/-- STC (R175). -/
def execStc (rd : Reg) (rs1 : Reg) (o2 : Operand2) (s : State) : Result :=
  let ea := effectiveAddress rs1 o2 s
  cpMemory .word ea (storeOne .word s.dataAsi ea (s.cpSupplies 0 (s.creg rd)) (cpEnds [] State.advanceCp)) s

/-- STDC (R176). -/
def execStdc (rd : Reg) (rs1 : Reg) (o2 : Operand2) (s : State) : Result :=
  let ea := effectiveAddress rs1 o2 s
  cpMemory .double ea
    (storeTwo s.dataAsi ea (s.cpSupplies 0 (s.creg (evenReg rd))) (s.cpSupplies 1 (s.creg (oddReg rd)))
      (cpEnds [] State.advanceCp)) s

/-- STCSR (R177). -/
def execStcsr (rs1 : Reg) (o2 : Operand2) (s : State) : Result :=
  let ea := effectiveAddress rs1 o2 s
  cpMemory .word ea (storeOne .word s.dataAsi ea (s.cpSupplies 0 (csrWord s.cp)) (cpEnds [] State.advanceCp)) s

/-- The store of the front entry of the coprocessor queue: the address at `ea`, the instruction at `ea + 4` (R170). With an
empty queue the spec refuses (N11, I20). -/
def storeCpQueue (ea : Word) (s : State) : Result :=
  match s.cp.queue with
  | [] => .refused .cpQueueEmpty
  | (addr, instr) :: _ =>
    storeTwo s.dataAsi ea addr instr dropCpQueue (s.emit (.launchCp s.ir s.pc))

/-- STDCQ (R178): it does not take cp_exception. -/
def execStdcq (rs1 : Reg) (o2 : Operand2) (s : State) : Result :=
  let ea := effectiveAddress rs1 o2 s
  privileged (withCp (whenAligned .double ea (storeCpQueue ea))) s

end Sys2Proof.Machine
end

