-- ==== Sys2Proof/Machine/CpOperate.lean ====
section
/-! DEFINITION. Coprocessor operate instructions (45_fpop_cpop.md R307 to R309): the operations are the designer's, so their effect on
the coprocessor is free (I18). -/

namespace Sys2Proof.Machine

/-- The coprocessor after an operation that completes: its registers are those of `v`, the designer's (R307). -/
def cpOperated (u v : Coprocessor) : Coprocessor := { u with c := v.c, csr := v.csr, ccc := v.ccc }

/-- The coprocessor recognises an exception of the CPop: the instruction stays in the queue with its address, no result is
written, CEXC is asserted (R50, R309). -/
def State.cpRaises (s : State) : State := { s with cp := cpRecognises [(s.pc, s.ir)] s.cp }

/-- A CPop (R307, R308): checks, launch, `advance`. The coprocessor either raises its exception, which is deferred (R309), or
completes it; in exception mode its answer is free (I18, log 12). A coprocessor compare opens the spacing of R255. -/
def cpop (second : Bool) (rd rs1 : Reg) (opc : BitVec 9) (rs2 : Reg) (s : State) : Result :=
  withCp (launchCp fun s =>
    let done := cpEnds [] (fun s =>
      if Config.cpopRaises second opc rd rs1 rs2 s.pc s.cp then s.cpRaises.advanceCp
      else { s with cp := cpOperated s.cp (Config.cpopEffect second opc rd rs1 rs2 s.pc s.cp) }.advanceCp) s
    .next { done with cpCompare := Config.cpopIsCompare second opc || s.cpCompare }) s

/-- CPop1 (R307). -/
def execCpop1 (rd : Reg) (rs1 : Reg) (opc : BitVec 9) (rs2 : Reg) (s : State) : Result :=
  cpop false rd rs1 opc rs2 s

/-- CPop2 (R308). -/
def execCpop2 (rd : Reg) (rs1 : Reg) (opc : BitVec 9) (rs2 : Reg) (s : State) : Result :=
  cpop true rd rs1 opc rs2 s

end Sys2Proof.Machine
end

