-- ==== Sys2Proof/Machine/FpBranch.lean ====
section
/-! DEFINITION. FBfcc (43_control_transfer.md R250, R251). -/

namespace Sys2Proof.Machine

/-- FBfcc with the given cond field: fp_disabled, also for a parity error on the FPU-to-IU control signals (R250, R341,
R403); fp_exception; then the branch on FCC[1:0] (R251), in exception mode too (DESIGN CHOICE, log 12). A parity error there
raises fp_disabled alone: HWERROR is not asserted (DESIGN CHOICE, log 29). -/
def fbfcc (cond : BitVec 4) (a : Bool) (disp22 : BitVec 22) (s : State) : Result :=
  withFp (fun s =>
    if s.cfg.parityInEnabled && s.pins.fipar then raise .fpDisabled s
    else if s.fpu.excPending then raise .fpException s
    else .next (s.branch (cond == 0b1000#4) (testFcc cond s.fpu.fcc) a disp22)) s

/-- FBN (R251). -/
def execFbn (a : Bool) (disp22 : BitVec 22) (s : State) : Result := fbfcc 0b0000#4 a disp22 s

/-- FBNE (R251). -/
def execFbne (a : Bool) (disp22 : BitVec 22) (s : State) : Result := fbfcc 0b0001#4 a disp22 s

/-- FBLG (R251). -/
def execFblg (a : Bool) (disp22 : BitVec 22) (s : State) : Result := fbfcc 0b0010#4 a disp22 s

/-- FBUL (R251). -/
def execFbul (a : Bool) (disp22 : BitVec 22) (s : State) : Result := fbfcc 0b0011#4 a disp22 s

/-- FBL (R251). -/
def execFbl (a : Bool) (disp22 : BitVec 22) (s : State) : Result := fbfcc 0b0100#4 a disp22 s

/-- FBUG (R251). -/
def execFbug (a : Bool) (disp22 : BitVec 22) (s : State) : Result := fbfcc 0b0101#4 a disp22 s

/-- FBG (R251). -/
def execFbg (a : Bool) (disp22 : BitVec 22) (s : State) : Result := fbfcc 0b0110#4 a disp22 s

/-- FBU (R251). -/
def execFbu (a : Bool) (disp22 : BitVec 22) (s : State) : Result := fbfcc 0b0111#4 a disp22 s

/-- FBA (R251). -/
def execFba (a : Bool) (disp22 : BitVec 22) (s : State) : Result := fbfcc 0b1000#4 a disp22 s

/-- FBE (R251). -/
def execFbe (a : Bool) (disp22 : BitVec 22) (s : State) : Result := fbfcc 0b1001#4 a disp22 s

/-- FBUE (R251). -/
def execFbue (a : Bool) (disp22 : BitVec 22) (s : State) : Result := fbfcc 0b1010#4 a disp22 s

/-- FBGE (R251). -/
def execFbge (a : Bool) (disp22 : BitVec 22) (s : State) : Result := fbfcc 0b1011#4 a disp22 s

/-- FBUGE (R251). -/
def execFbuge (a : Bool) (disp22 : BitVec 22) (s : State) : Result := fbfcc 0b1100#4 a disp22 s

/-- FBLE (R251). -/
def execFble (a : Bool) (disp22 : BitVec 22) (s : State) : Result := fbfcc 0b1101#4 a disp22 s

/-- FBULE (R251). -/
def execFbule (a : Bool) (disp22 : BitVec 22) (s : State) : Result := fbfcc 0b1110#4 a disp22 s

/-- FBO (R251). -/
def execFbo (a : Bool) (disp22 : BitVec 22) (s : State) : Result := fbfcc 0b1111#4 a disp22 s

end Sys2Proof.Machine
end

