-- ==== Sys2Proof/Machine/FpMemory.lean ====
section
/-! DEFINITION. Floating-point loads and stores (41_load_store_fp_cp.md R160 to R170). -/

namespace Sys2Proof.Machine

/-- The order of checks of a floating-point load or store with a data access (R161): disabled, alignment,
exception. -/
def fpMemory (size : AccessSize) (ea : Word) (access : State → Result) (s : State) : Result :=
  withFp (whenAligned size ea (launchFp access)) s

/-- The end of an floating-point load of one register. -/
def putFreg (rd : Reg) (v : Word) (s : State) : State := (s.setFreg rd v).advance

/-- The end of a floating-point load of a register pair; the even register takes the first word (R162, D9). -/
def putFregPair (rd : Reg) (hi lo : Word) (s : State) : State :=
  ((s.setFreg (evenReg rd) hi).setFreg (oddReg rd) lo).advance

/-- A refused floating-point doubleword load leaves the pair free: what the unit does is not in the source (R165, N14). -/
def fpPairRefused (rd : Reg) (s : State) : Result :=
  raise .dataAccess ((s.drawn.drawn.setFreg (evenReg rd) (Config.freeWord s.draws)).setFreg (oddReg rd)
    (Config.freeWord (s.draws + 1)))

/-- The end of LDFSR: the condition codes are written (R166, C13); which other bits are is not in the source (R166). -/
def putFsr (v : Word) (s : State) : State :=
  { s.advance with fpu := { s.fpu with
      fsr := Config.fsrLoaded (fsrWord s.fpu) v, fcc := codeOf Config.fccPlace v } }

/-- The end of STDFQ: the front entry leaves the queue, and with the last one exception mode ends (R55, R170). -/
def dropFpQueue (s : State) : State :=
  { s.advance with fpu := { s.fpu with
      queue := s.fpu.queue.tail, excMode := s.fpu.excMode && !s.fpu.queue.tail.isEmpty } }

/-- LDF (R164). -/
def execLdf (rd : Reg) (rs1 : Reg) (o2 : Operand2) (s : State) : Result :=
  let ea := effectiveAddress rs1 o2 s
  fpMemory .word ea (loadOne .word s.dataAsi ea (fun v => fpEnds [v] (putFreg rd v))) s

/-- LDDF (R165). -/
def execLddf (rd : Reg) (rs1 : Reg) (o2 : Operand2) (s : State) : Result :=
  let ea := effectiveAddress rs1 o2 s
  fpMemory .double ea
    (loadTwo s.dataAsi ea (fpPairRefused rd) (fun hi lo => fpEnds [hi, lo] (putFregPair rd hi lo))) s

/-- LDFSR (R166). -/
def execLdfsr (rs1 : Reg) (o2 : Operand2) (s : State) : Result :=
  let ea := effectiveAddress rs1 o2 s
  fpMemory .word ea (loadOne .word s.dataAsi ea (fun v => fpEnds [v] (putFsr v))) s

/-- STF (R167). -/
def execStf (rd : Reg) (rs1 : Reg) (o2 : Operand2) (s : State) : Result :=
  let ea := effectiveAddress rs1 o2 s
  fpMemory .word ea (storeOne .word s.dataAsi ea (s.fpSupplies 0 (s.freg rd)) (fpEnds [] State.advance)) s

/-- STDF (R168). -/
def execStdf (rd : Reg) (rs1 : Reg) (o2 : Operand2) (s : State) : Result :=
  let ea := effectiveAddress rs1 o2 s
  fpMemory .double ea
    (storeTwo s.dataAsi ea (s.fpSupplies 0 (s.freg (evenReg rd))) (s.fpSupplies 1 (s.freg (oddReg rd)))
      (fpEnds [] State.advance)) s

/-- STFSR (R169). -/
def execStfsr (rs1 : Reg) (o2 : Operand2) (s : State) : Result :=
  let ea := effectiveAddress rs1 o2 s
  fpMemory .word ea (storeOne .word s.dataAsi ea (s.fpSupplies 0 (fsrWord s.fpu)) (fpEnds [] State.advance)) s

/-- The store of the front entry of the floating-point queue: the address at `ea`, the instruction at `ea + 4` (R170). With an
empty queue the spec refuses (N11, I20). -/
def storeFpQueue (ea : Word) (s : State) : Result :=
  match s.fpu.queue with
  | [] => .refused .fpQueueEmpty
  | (addr, instr) :: _ =>
    storeTwo s.dataAsi ea addr instr dropFpQueue (s.emit (.launchFp s.ir s.pc))

/-- STDFQ (R170): it does not take fp_exception. -/
def execStdfq (rs1 : Reg) (o2 : Operand2) (s : State) : Result :=
  let ea := effectiveAddress rs1 o2 s
  privileged (withFp (whenAligned .double ea (storeFpQueue ea))) s

end Sys2Proof.Machine
end

