-- ==== Sys2Proof/Machine/FpOperate.lean ====
section
/-! DEFINITION. Floating-point operate instructions (45_fpop_cpop.md R300 to R306, R310): the FPU executes an FPop at its launch (R303); its
arithmetic is free (R8). -/

namespace Sys2Proof.Machine

/-- How many f registers an operand takes (R310). -/
inductive Precision where
  /-- Single precision or a 32-bit integer. -/
  | single
  /-- Double precision. -/
  | double
  /-- Extended precision. -/
  | extended
deriving DecidableEq, Repr

/-- The registers of an operand, the most significant word first; the hardware forces an even number (R310, R49). -/
def operandGroup (p : Precision) (r : Reg) : List Reg :=
  match p with
  | .single => [r]
  | .double => [evenReg r, oddReg r]
  | .extended => [evenReg r, oddReg r, evenReg r + 2#5, evenReg r + 3#5]

/-- The words of an operand. -/
def State.fgroup (s : State) (p : Precision) (r : Reg) : List Word := (operandGroup p r).map s.freg

/-- Writing `value k` to the k-th register of a list, from `k` on. -/
def setFregs (value : Nat → Word) : Nat → List Reg → State → State
  | _, [], s => s
  | k, r :: rs, s => setFregs value (k + 1) rs (s.setFreg r (value k))

/-- The FPU detects an exception: the instruction stays in the queue with its address, no result is written, FEXC is
asserted (R306). -/
def State.fpuRaises (s : State) : State := { s with fpu := fpRecognises [(s.pc, s.ir)] s.fpu }

/-- An FPop (R302): checks, launch, `advance`. The FPU, on operands `a` and `b`, either raises its exception, which is
deferred (R306), or does `effect`; the FSR after it but for its condition codes is free (N10). In exception mode the FPU's
answer is free (N12). -/
def fpop (opf : BitVec 9) (a b : List Word) (effect : State → State) (s : State) : Result :=
  withFp (launchFp fun s => .next (fpEnds [] (fun s =>
    let fsr := fsrWord s.fpu
    if Config.fpRaises opf a b fsr then s.fpuRaises.advance
    else
      let done := effect s
      { done with fpu := { done.fpu with fsr := Config.fsrAfterFpop opf a b fsr } }.advance) s)) s

/-- An FPop that writes a computed result of precision `p` to rd (R310). -/
def fpCompute (opf : BitVec 9) (p : Precision) (rd : Reg) (a b : List Word) (s : State) : Result :=
  fpop opf a b (fun t => setFregs (Config.fpResult opf a b (fsrWord s.fpu)) 0 (operandGroup p rd) t) s

/-- An FPop that writes an exact copy `v` to f[rd] (R310). -/
def fpCopy (opf : BitVec 9) (rd : Reg) (b : List Word) (v : Word) (s : State) : Result :=
  fpop opf [] b (fun t => t.setFreg rd v) s

/-- A floating-point compare: FCC takes the relation (R310). -/
def fpCompare (opf : BitVec 9) (p : Precision) (rs1 rs2 : Reg) (s : State) : Result :=
  let a := s.fgroup p rs1
  let b := s.fgroup p rs2
  fpop opf a b (fun t => { t with fpu := { t.fpu with fcc := Config.fpRelation opf a b (fsrWord s.fpu) } }) s

/-- An FPop the FPU does not implement: launched like any other, then its exception is pending (R109, R301). -/
def fpUnimplemented (s : State) : Result :=
  withFp (launchFp fun s => .next (fpEnds [] (fun s => s.fpuRaises.advance) s)) s

/-- FMOVs (R302, R310). -/
def execFmovs (rd : Reg) (rs2 : Reg) (s : State) : Result :=
  fpCopy 0b000000001#9 rd (s.fgroup .single rs2) (s.freg rs2) s

/-- FNEGs (R302, R310). -/
def execFnegs (rd : Reg) (rs2 : Reg) (s : State) : Result :=
  fpCopy 0b000000101#9 rd (s.fgroup .single rs2) (s.freg rs2 ^^^ 0x80000000#32) s

/-- FABSs (R302, R310). -/
def execFabss (rd : Reg) (rs2 : Reg) (s : State) : Result :=
  fpCopy 0b000001001#9 rd (s.fgroup .single rs2) (s.freg rs2 &&& 0x7FFFFFFF#32) s

/-- FSQRTs (R302, R310). -/
def execFsqrts (rd : Reg) (rs2 : Reg) (s : State) : Result :=
  fpCompute 0b000101001#9 .single rd [] (s.fgroup .single rs2) s

/-- FSQRTd (R302, R310). -/
def execFsqrtd (rd : Reg) (rs2 : Reg) (s : State) : Result :=
  fpCompute 0b000101010#9 .double rd [] (s.fgroup .double rs2) s

/-- FSQRTx (R302, R310). -/
def execFsqrtx (rd : Reg) (rs2 : Reg) (s : State) : Result :=
  fpCompute 0b000101011#9 .extended rd [] (s.fgroup .extended rs2) s

/-- FADDs (R302, R310). -/
def execFadds (rd : Reg) (rs1 : Reg) (rs2 : Reg) (s : State) : Result :=
  fpCompute 0b001000001#9 .single rd (s.fgroup .single rs1) (s.fgroup .single rs2) s

/-- FADDd (R302, R310). -/
def execFaddd (rd : Reg) (rs1 : Reg) (rs2 : Reg) (s : State) : Result :=
  fpCompute 0b001000010#9 .double rd (s.fgroup .double rs1) (s.fgroup .double rs2) s

/-- FADDx (R302, R310). -/
def execFaddx (rd : Reg) (rs1 : Reg) (rs2 : Reg) (s : State) : Result :=
  fpCompute 0b001000011#9 .extended rd (s.fgroup .extended rs1) (s.fgroup .extended rs2) s

/-- FSUBs (R302, R310). -/
def execFsubs (rd : Reg) (rs1 : Reg) (rs2 : Reg) (s : State) : Result :=
  fpCompute 0b001000101#9 .single rd (s.fgroup .single rs1) (s.fgroup .single rs2) s

/-- FSUBd (R302, R310). -/
def execFsubd (rd : Reg) (rs1 : Reg) (rs2 : Reg) (s : State) : Result :=
  fpCompute 0b001000110#9 .double rd (s.fgroup .double rs1) (s.fgroup .double rs2) s

/-- FSUBx (R302, R310). -/
def execFsubx (rd : Reg) (rs1 : Reg) (rs2 : Reg) (s : State) : Result :=
  fpCompute 0b001000111#9 .extended rd (s.fgroup .extended rs1) (s.fgroup .extended rs2) s

/-- FMULs (R302, R310). -/
def execFmuls (rd : Reg) (rs1 : Reg) (rs2 : Reg) (s : State) : Result :=
  fpCompute 0b001001001#9 .single rd (s.fgroup .single rs1) (s.fgroup .single rs2) s

/-- FMULd (R302, R310). -/
def execFmuld (rd : Reg) (rs1 : Reg) (rs2 : Reg) (s : State) : Result :=
  fpCompute 0b001001010#9 .double rd (s.fgroup .double rs1) (s.fgroup .double rs2) s

/-- FMULx (R302, R310). -/
def execFmulx (rd : Reg) (rs1 : Reg) (rs2 : Reg) (s : State) : Result :=
  fpCompute 0b001001011#9 .extended rd (s.fgroup .extended rs1) (s.fgroup .extended rs2) s

/-- FDIVs (R302, R310). -/
def execFdivs (rd : Reg) (rs1 : Reg) (rs2 : Reg) (s : State) : Result :=
  fpCompute 0b001001101#9 .single rd (s.fgroup .single rs1) (s.fgroup .single rs2) s

/-- FDIVd (R302, R310). -/
def execFdivd (rd : Reg) (rs1 : Reg) (rs2 : Reg) (s : State) : Result :=
  fpCompute 0b001001110#9 .double rd (s.fgroup .double rs1) (s.fgroup .double rs2) s

/-- FDIVx (R302, R310). -/
def execFdivx (rd : Reg) (rs1 : Reg) (rs2 : Reg) (s : State) : Result :=
  fpCompute 0b001001111#9 .extended rd (s.fgroup .extended rs1) (s.fgroup .extended rs2) s

/-- FiTOs (R302, R310). -/
def execFitos (rd : Reg) (rs2 : Reg) (s : State) : Result :=
  fpCompute 0b011000100#9 .single rd [] (s.fgroup .single rs2) s

/-- FdTOs (R302, R310). -/
def execFdtos (rd : Reg) (rs2 : Reg) (s : State) : Result :=
  fpCompute 0b011000110#9 .single rd [] (s.fgroup .double rs2) s

/-- FxTOs (R302, R310). -/
def execFxtos (rd : Reg) (rs2 : Reg) (s : State) : Result :=
  fpCompute 0b011000111#9 .single rd [] (s.fgroup .extended rs2) s

/-- FiTOd (R302, R310). -/
def execFitod (rd : Reg) (rs2 : Reg) (s : State) : Result :=
  fpCompute 0b011001000#9 .double rd [] (s.fgroup .single rs2) s

/-- FsTOd (R302, R310). -/
def execFstod (rd : Reg) (rs2 : Reg) (s : State) : Result :=
  fpCompute 0b011001001#9 .double rd [] (s.fgroup .single rs2) s

/-- FxTOd (R302, R310). -/
def execFxtod (rd : Reg) (rs2 : Reg) (s : State) : Result :=
  fpCompute 0b011001011#9 .double rd [] (s.fgroup .extended rs2) s

/-- FiTOx (R302, R310). -/
def execFitox (rd : Reg) (rs2 : Reg) (s : State) : Result :=
  fpCompute 0b011001100#9 .extended rd [] (s.fgroup .single rs2) s

/-- FsTOx (R302, R310). -/
def execFstox (rd : Reg) (rs2 : Reg) (s : State) : Result :=
  fpCompute 0b011001101#9 .extended rd [] (s.fgroup .single rs2) s

/-- FdTOx (R302, R310). -/
def execFdtox (rd : Reg) (rs2 : Reg) (s : State) : Result :=
  fpCompute 0b011001110#9 .extended rd [] (s.fgroup .double rs2) s

/-- FsTOi (R302, R310). -/
def execFstoi (rd : Reg) (rs2 : Reg) (s : State) : Result :=
  fpCompute 0b011010001#9 .single rd [] (s.fgroup .single rs2) s

/-- FdTOi (R302, R310). -/
def execFdtoi (rd : Reg) (rs2 : Reg) (s : State) : Result :=
  fpCompute 0b011010010#9 .single rd [] (s.fgroup .double rs2) s

/-- FxTOi (R302, R310). -/
def execFxtoi (rd : Reg) (rs2 : Reg) (s : State) : Result :=
  fpCompute 0b011010011#9 .single rd [] (s.fgroup .extended rs2) s

/-- FCMPs (R302, R310). -/
def execFcmps (rs1 : Reg) (rs2 : Reg) (s : State) : Result :=
  fpCompare 0b001010001#9 .single rs1 rs2 s

/-- FCMPd (R302, R310). -/
def execFcmpd (rs1 : Reg) (rs2 : Reg) (s : State) : Result :=
  fpCompare 0b001010010#9 .double rs1 rs2 s

/-- FCMPx (R302, R310). -/
def execFcmpx (rs1 : Reg) (rs2 : Reg) (s : State) : Result :=
  fpCompare 0b001010011#9 .extended rs1 rs2 s

/-- FCMPEs (R302, R310). -/
def execFcmpes (rs1 : Reg) (rs2 : Reg) (s : State) : Result :=
  fpCompare 0b001010101#9 .single rs1 rs2 s

/-- FCMPEd (R302, R310). -/
def execFcmped (rs1 : Reg) (rs2 : Reg) (s : State) : Result :=
  fpCompare 0b001010110#9 .double rs1 rs2 s

/-- FCMPEx (R302, R310). -/
def execFcmpex (rs1 : Reg) (rs2 : Reg) (s : State) : Result :=
  fpCompare 0b001010111#9 .extended rs1 rs2 s

/-- FPop1 with an opf that names no operation (R109, R301): the FPU interprets every other field. -/
def execFpop1 (_rd _rs1 : Reg) (_opf : BitVec 9) (_rs2 : Reg) (s : State) : Result :=
  fpUnimplemented s

/-- FPop2 with an opf that names no operation (R109, R301): the FPU interprets every other field. -/
def execFpop2 (_rd _rs1 : Reg) (_opf : BitVec 9) (_rs2 : Reg) (s : State) : Result :=
  fpUnimplemented s

end Sys2Proof.Machine
end

