-- ==== Sys2Proof/Machine/Logic.lean ====
section
/-! DEFINITION. Logical instructions (42_arith_logic_shift.md R208 to R219). -/

namespace Sys2Proof.Machine

/-- AND (R208). -/
def execAnd (rd : Reg) (rs1 : Reg) (o2 : Operand2) (s : State) : Result :=
  writeReg rd (s.reg rs1 &&& operand2 o2 s) s

/-- ANDcc (R209). -/
def execAndcc (rd : Reg) (rs1 : Reg) (o2 : Operand2) (s : State) : Result :=
  writeRegCc rd (s.reg rs1 &&& operand2 o2 s) (logicIcc (s.reg rs1 &&& operand2 o2 s)) s

/-- OR (R212). -/
def execOr (rd : Reg) (rs1 : Reg) (o2 : Operand2) (s : State) : Result :=
  writeReg rd (s.reg rs1 ||| operand2 o2 s) s

/-- ORcc (R213). -/
def execOrcc (rd : Reg) (rs1 : Reg) (o2 : Operand2) (s : State) : Result :=
  writeRegCc rd (s.reg rs1 ||| operand2 o2 s) (logicIcc (s.reg rs1 ||| operand2 o2 s)) s

/-- XOR (R216). -/
def execXor (rd : Reg) (rs1 : Reg) (o2 : Operand2) (s : State) : Result :=
  writeReg rd (s.reg rs1 ^^^ operand2 o2 s) s

/-- XORcc (R217). -/
def execXorcc (rd : Reg) (rs1 : Reg) (o2 : Operand2) (s : State) : Result :=
  writeRegCc rd (s.reg rs1 ^^^ operand2 o2 s) (logicIcc (s.reg rs1 ^^^ operand2 o2 s)) s

/-- ANDN (R210). -/
def execAndn (rd : Reg) (rs1 : Reg) (o2 : Operand2) (s : State) : Result :=
  writeReg rd (s.reg rs1 &&& ~~~operand2 o2 s) s

/-- ANDNcc (R211). -/
def execAndncc (rd : Reg) (rs1 : Reg) (o2 : Operand2) (s : State) : Result :=
  writeRegCc rd (s.reg rs1 &&& ~~~operand2 o2 s) (logicIcc (s.reg rs1 &&& ~~~operand2 o2 s)) s

/-- ORN (R214). -/
def execOrn (rd : Reg) (rs1 : Reg) (o2 : Operand2) (s : State) : Result :=
  writeReg rd (s.reg rs1 ||| ~~~operand2 o2 s) s

/-- ORNcc (R215). -/
def execOrncc (rd : Reg) (rs1 : Reg) (o2 : Operand2) (s : State) : Result :=
  writeRegCc rd (s.reg rs1 ||| ~~~operand2 o2 s) (logicIcc (s.reg rs1 ||| ~~~operand2 o2 s)) s

/-- XNOR (R218). -/
def execXnor (rd : Reg) (rs1 : Reg) (o2 : Operand2) (s : State) : Result :=
  writeReg rd (~~~(s.reg rs1 ^^^ operand2 o2 s)) s

/-- XNORcc (R219). -/
def execXnorcc (rd : Reg) (rs1 : Reg) (o2 : Operand2) (s : State) : Result :=
  writeRegCc rd (~~~(s.reg rs1 ^^^ operand2 o2 s)) (logicIcc (~~~(s.reg rs1 ^^^ operand2 o2 s))) s

end Sys2Proof.Machine
end

