-- ==== Sys2Proof/Machine/Misc.lean ====
section
/-! DEFINITION. UNIMP and IFLUSH (46_misc.md). -/

namespace Sys2Proof.Machine

/-- UNIMP (R320): const22 is not interpreted. -/
def execUnimp (_const22 : BitVec 22) (s : State) : Result :=
  raise .illegalInstruction s

/-- IFLUSH (R322): a NOP with IFT high, illegal with IFT low; its address is not computed. -/
def execIflush (_rs1 : Reg) (_o2 : Operand2) (s : State) : Result :=
  if s.cfg.ift then .next s.advance else raise .illegalInstruction s

end Sys2Proof.Machine
end

