-- ==== Sys2Proof/Machine/Shift.lean ====
section
/-! DEFINITION. Shifts, SETHI and its two special words (42_arith_logic_shift.md R220 to R227, 61_fault_tolerance.md R391 to R397). -/

namespace Sys2Proof.Machine

/-- SLL (R221). -/
def execSll (rd : Reg) (rs1 : Reg) (cnt : ShiftCount) (s : State) : Result :=
  writeReg rd (s.reg rs1 <<< shiftCount cnt s) s

/-- SRL (R222). -/
def execSrl (rd : Reg) (rs1 : Reg) (cnt : ShiftCount) (s : State) : Result :=
  writeReg rd (s.reg rs1 >>> shiftCount cnt s) s

/-- SRA (R223). -/
def execSra (rd : Reg) (rs1 : Reg) (cnt : ShiftCount) (s : State) : Result :=
  writeReg rd ((s.reg rs1).sshiftRight (shiftCount cnt s)) s

/-- SETHI (R226). -/
def execSethi (rd : Reg) (imm22 : BitVec 22) (s : State) : Result :=
  writeReg rd (sethiValue imm22) s

/-- The signature of a checksum (R391). -/
def signature (sum : Word) : BitVec 16 := sum.extractLsb' 16 16 ^^^ sum.extractLsb' 0 16

/-- The end of a special SETHI under program flow control: the checksum is reset and the next check enabled or
disabled, the word itself not folded in (R391, R393, R395). -/
def State.restartCheck (s : State) (enabled : Bool) : State :=
  { s.advance with pfcSum := 0#32, pfcCheckEnabled := enabled }

/-- NOP (R227), R395. -/
def execNop (s : State) : Result :=
  .next (if s.cfg.flowEnabled then s.restartCheck false else s.advance)

/-- PFCHECK (R393): without program flow control a SETHI to r[0] (R390). -/
def execPfcheck (sig : BitVec 16) (s : State) : Result :=
  if s.cfg.flowEnabled then
    if s.pfcCheckEnabled && signature s.pfcSum != sig then raise (.hardware .programFlow) s
    else .next (s.restartCheck true)
  else .next s.advance

end Sys2Proof.Machine
end

