-- ==== Sys2Proof/Machine/Transfer.lean ====
section
/-! DEFINITION. CALL, JMPL, RETT, SAVE and RESTORE (43_control_transfer.md R259 to R270). -/

namespace Sys2Proof.Machine

/-- CALL (R259). -/
def execCall (disp30 : BitVec 30) (s : State) : Result :=
  .next ((s.setReg 15#5 s.pc).transfer (callTarget disp30 s))

/-- JMPL (R261). -/
def execJmpl (rd : Reg) (rs1 : Reg) (o2 : Operand2) (s : State) : Result :=
  let ea := effectiveAddress rs1 o2 s
  whenAligned .word ea (fun s => .next ((s.setReg rd s.pc).transfer ea)) s

/-- RETT (R263): with ET = 0 a failed check enters error mode (R264). -/
def execRett (rs1 : Reg) (o2 : Operand2) (s : State) : Result :=
  let ea := effectiveAddress rs1 o2 s
  if s.psr.et then raise .illegalInstruction s
  else if !s.psr.s then raise .privilegedInstruction s
  else if s.windowInvalid (s.psr.cwp + 1#3) then raise .windowUnderflow s
  else if !aligned .word ea then raise .memAddressNotAligned s
  else .next (s.transfer ea).returnFromTrap

/-- SAVE (R268): the sum of the old window's registers goes to the new window. -/
def execSave (rd : Reg) (rs1 : Reg) (o2 : Operand2) (s : State) : Result :=
  let w := s.psr.cwp - 1#3
  if s.windowInvalid w then raise .windowOverflow s
  else writeReg rd (effectiveAddress rs1 o2 s) { s with psr := { s.psr with cwp := w } }

/-- RESTORE (R269): the sum of the old window's registers goes to the new window. -/
def execRestore (rd : Reg) (rs1 : Reg) (o2 : Operand2) (s : State) : Result :=
  let w := s.psr.cwp + 1#3
  if s.windowInvalid w then raise .windowUnderflow s
  else writeReg rd (effectiveAddress rs1 o2 s) { s with psr := { s.psr with cwp := w } }

end Sys2Proof.Machine
end

