-- ==== Sys2Proof/Machine/TrapCond.lean ====
section
/-! DEFINITION. Ticc (43_control_transfer.md R266, 60_exceptions.md R349). -/

namespace Sys2Proof.Machine

/-- Ticc with the given cond field: where the condition holds, the trap 128 plus the low seven bits of the sum. -/
def ticc (cond : BitVec 4) (rs1 : Reg) (o2 : Operand2) (s : State) : Result :=
  if testIcc cond s.psr.icc then raise (.trapInstruction ((effectiveAddress rs1 o2 s).extractLsb' 0 7)) s
  else .next s.advance

/-- TN (R266). -/
def execTn (rs1 : Reg) (o2 : Operand2) (s : State) : Result := ticc 0b0000#4 rs1 o2 s

/-- TE (R266). -/
def execTe (rs1 : Reg) (o2 : Operand2) (s : State) : Result := ticc 0b0001#4 rs1 o2 s

/-- TLE (R266). -/
def execTle (rs1 : Reg) (o2 : Operand2) (s : State) : Result := ticc 0b0010#4 rs1 o2 s

/-- TL (R266). -/
def execTl (rs1 : Reg) (o2 : Operand2) (s : State) : Result := ticc 0b0011#4 rs1 o2 s

/-- TLEU (R266). -/
def execTleu (rs1 : Reg) (o2 : Operand2) (s : State) : Result := ticc 0b0100#4 rs1 o2 s

/-- TCS (R266). -/
def execTcs (rs1 : Reg) (o2 : Operand2) (s : State) : Result := ticc 0b0101#4 rs1 o2 s

/-- TNEG (R266). -/
def execTneg (rs1 : Reg) (o2 : Operand2) (s : State) : Result := ticc 0b0110#4 rs1 o2 s

/-- TVS (R266). -/
def execTvs (rs1 : Reg) (o2 : Operand2) (s : State) : Result := ticc 0b0111#4 rs1 o2 s

/-- TA (R266). -/
def execTa (rs1 : Reg) (o2 : Operand2) (s : State) : Result := ticc 0b1000#4 rs1 o2 s

/-- TNE (R266). -/
def execTne (rs1 : Reg) (o2 : Operand2) (s : State) : Result := ticc 0b1001#4 rs1 o2 s

/-- TG (R266). -/
def execTg (rs1 : Reg) (o2 : Operand2) (s : State) : Result := ticc 0b1010#4 rs1 o2 s

/-- TGE (R266). -/
def execTge (rs1 : Reg) (o2 : Operand2) (s : State) : Result := ticc 0b1011#4 rs1 o2 s

/-- TGU (R266). -/
def execTgu (rs1 : Reg) (o2 : Operand2) (s : State) : Result := ticc 0b1100#4 rs1 o2 s

/-- TCC (R266). -/
def execTcc (rs1 : Reg) (o2 : Operand2) (s : State) : Result := ticc 0b1101#4 rs1 o2 s

/-- TPOS (R266). -/
def execTpos (rs1 : Reg) (o2 : Operand2) (s : State) : Result := ticc 0b1110#4 rs1 o2 s

/-- TVC (R266). -/
def execTvc (rs1 : Reg) (o2 : Operand2) (s : State) : Result := ticc 0b1111#4 rs1 o2 s

end Sys2Proof.Machine
end

