-- ==== Sys2Proof/Machine/Dispatch.lean ====
section
/-! DEFINITION. The meaning of each instruction: one arm per constructor, each one call of its definition. -/

namespace Sys2Proof.Machine

def exec (i : Instr) (s : State) : Host.Outcome State Fault Refusal :=
  match i with
  | .call disp30 => Sys2Proof.Machine.execCall disp30 s
  | .unimp const22 => Sys2Proof.Machine.execUnimp const22 s
  | .sethi rd imm22 => Sys2Proof.Machine.execSethi rd imm22 s
  | .nop => Sys2Proof.Machine.execNop s
  | .pfcheck sig => Sys2Proof.Machine.execPfcheck sig s
  | .bn a disp22 => Sys2Proof.Machine.execBn a disp22 s
  | .be a disp22 => Sys2Proof.Machine.execBe a disp22 s
  | .ble a disp22 => Sys2Proof.Machine.execBle a disp22 s
  | .bl a disp22 => Sys2Proof.Machine.execBl a disp22 s
  | .bleu a disp22 => Sys2Proof.Machine.execBleu a disp22 s
  | .bcs a disp22 => Sys2Proof.Machine.execBcs a disp22 s
  | .bneg a disp22 => Sys2Proof.Machine.execBneg a disp22 s
  | .bvs a disp22 => Sys2Proof.Machine.execBvs a disp22 s
  | .ba a disp22 => Sys2Proof.Machine.execBa a disp22 s
  | .bne a disp22 => Sys2Proof.Machine.execBne a disp22 s
  | .bg a disp22 => Sys2Proof.Machine.execBg a disp22 s
  | .bge a disp22 => Sys2Proof.Machine.execBge a disp22 s
  | .bgu a disp22 => Sys2Proof.Machine.execBgu a disp22 s
  | .bcc a disp22 => Sys2Proof.Machine.execBcc a disp22 s
  | .bpos a disp22 => Sys2Proof.Machine.execBpos a disp22 s
  | .bvc a disp22 => Sys2Proof.Machine.execBvc a disp22 s
  | .fbn a disp22 => Sys2Proof.Machine.execFbn a disp22 s
  | .fbne a disp22 => Sys2Proof.Machine.execFbne a disp22 s
  | .fblg a disp22 => Sys2Proof.Machine.execFblg a disp22 s
  | .fbul a disp22 => Sys2Proof.Machine.execFbul a disp22 s
  | .fbl a disp22 => Sys2Proof.Machine.execFbl a disp22 s
  | .fbug a disp22 => Sys2Proof.Machine.execFbug a disp22 s
  | .fbg a disp22 => Sys2Proof.Machine.execFbg a disp22 s
  | .fbu a disp22 => Sys2Proof.Machine.execFbu a disp22 s
  | .fba a disp22 => Sys2Proof.Machine.execFba a disp22 s
  | .fbe a disp22 => Sys2Proof.Machine.execFbe a disp22 s
  | .fbue a disp22 => Sys2Proof.Machine.execFbue a disp22 s
  | .fbge a disp22 => Sys2Proof.Machine.execFbge a disp22 s
  | .fbuge a disp22 => Sys2Proof.Machine.execFbuge a disp22 s
  | .fble a disp22 => Sys2Proof.Machine.execFble a disp22 s
  | .fbule a disp22 => Sys2Proof.Machine.execFbule a disp22 s
  | .fbo a disp22 => Sys2Proof.Machine.execFbo a disp22 s
  | .cbn a disp22 => Sys2Proof.Machine.execCbn a disp22 s
  | .cb123 a disp22 => Sys2Proof.Machine.execCb123 a disp22 s
  | .cb12 a disp22 => Sys2Proof.Machine.execCb12 a disp22 s
  | .cb13 a disp22 => Sys2Proof.Machine.execCb13 a disp22 s
  | .cb1 a disp22 => Sys2Proof.Machine.execCb1 a disp22 s
  | .cb23 a disp22 => Sys2Proof.Machine.execCb23 a disp22 s
  | .cb2 a disp22 => Sys2Proof.Machine.execCb2 a disp22 s
  | .cb3 a disp22 => Sys2Proof.Machine.execCb3 a disp22 s
  | .cba a disp22 => Sys2Proof.Machine.execCba a disp22 s
  | .cb0 a disp22 => Sys2Proof.Machine.execCb0 a disp22 s
  | .cb03 a disp22 => Sys2Proof.Machine.execCb03 a disp22 s
  | .cb02 a disp22 => Sys2Proof.Machine.execCb02 a disp22 s
  | .cb023 a disp22 => Sys2Proof.Machine.execCb023 a disp22 s
  | .cb01 a disp22 => Sys2Proof.Machine.execCb01 a disp22 s
  | .cb013 a disp22 => Sys2Proof.Machine.execCb013 a disp22 s
  | .cb012 a disp22 => Sys2Proof.Machine.execCb012 a disp22 s
  | .add rd rs1 o2 => Sys2Proof.Machine.execAdd rd rs1 o2 s
  | .and rd rs1 o2 => Sys2Proof.Machine.execAnd rd rs1 o2 s
  | .or rd rs1 o2 => Sys2Proof.Machine.execOr rd rs1 o2 s
  | .xor rd rs1 o2 => Sys2Proof.Machine.execXor rd rs1 o2 s
  | .sub rd rs1 o2 => Sys2Proof.Machine.execSub rd rs1 o2 s
  | .andn rd rs1 o2 => Sys2Proof.Machine.execAndn rd rs1 o2 s
  | .orn rd rs1 o2 => Sys2Proof.Machine.execOrn rd rs1 o2 s
  | .xnor rd rs1 o2 => Sys2Proof.Machine.execXnor rd rs1 o2 s
  | .addx rd rs1 o2 => Sys2Proof.Machine.execAddx rd rs1 o2 s
  | .subx rd rs1 o2 => Sys2Proof.Machine.execSubx rd rs1 o2 s
  | .addcc rd rs1 o2 => Sys2Proof.Machine.execAddcc rd rs1 o2 s
  | .andcc rd rs1 o2 => Sys2Proof.Machine.execAndcc rd rs1 o2 s
  | .orcc rd rs1 o2 => Sys2Proof.Machine.execOrcc rd rs1 o2 s
  | .xorcc rd rs1 o2 => Sys2Proof.Machine.execXorcc rd rs1 o2 s
  | .subcc rd rs1 o2 => Sys2Proof.Machine.execSubcc rd rs1 o2 s
  | .andncc rd rs1 o2 => Sys2Proof.Machine.execAndncc rd rs1 o2 s
  | .orncc rd rs1 o2 => Sys2Proof.Machine.execOrncc rd rs1 o2 s
  | .xnorcc rd rs1 o2 => Sys2Proof.Machine.execXnorcc rd rs1 o2 s
  | .addxcc rd rs1 o2 => Sys2Proof.Machine.execAddxcc rd rs1 o2 s
  | .subxcc rd rs1 o2 => Sys2Proof.Machine.execSubxcc rd rs1 o2 s
  | .taddcc rd rs1 o2 => Sys2Proof.Machine.execTaddcc rd rs1 o2 s
  | .tsubcc rd rs1 o2 => Sys2Proof.Machine.execTsubcc rd rs1 o2 s
  | .taddcctv rd rs1 o2 => Sys2Proof.Machine.execTaddcctv rd rs1 o2 s
  | .tsubcctv rd rs1 o2 => Sys2Proof.Machine.execTsubcctv rd rs1 o2 s
  | .mulscc rd rs1 o2 => Sys2Proof.Machine.execMulscc rd rs1 o2 s
  | .sll rd rs1 cnt => Sys2Proof.Machine.execSll rd rs1 cnt s
  | .srl rd rs1 cnt => Sys2Proof.Machine.execSrl rd rs1 cnt s
  | .sra rd rs1 cnt => Sys2Proof.Machine.execSra rd rs1 cnt s
  | .rdy rd => Sys2Proof.Machine.execRdy rd s
  | .rdpsr rd => Sys2Proof.Machine.execRdpsr rd s
  | .rdwim rd => Sys2Proof.Machine.execRdwim rd s
  | .rdtbr rd => Sys2Proof.Machine.execRdtbr rd s
  | .wry rs1 o2 => Sys2Proof.Machine.execWry rs1 o2 s
  | .wrpsr rs1 o2 => Sys2Proof.Machine.execWrpsr rs1 o2 s
  | .wrwim rs1 o2 => Sys2Proof.Machine.execWrwim rs1 o2 s
  | .wrtbr rs1 o2 => Sys2Proof.Machine.execWrtbr rs1 o2 s
  | .fmovs rd rs2 => Sys2Proof.Machine.execFmovs rd rs2 s
  | .fnegs rd rs2 => Sys2Proof.Machine.execFnegs rd rs2 s
  | .fabss rd rs2 => Sys2Proof.Machine.execFabss rd rs2 s
  | .fsqrts rd rs2 => Sys2Proof.Machine.execFsqrts rd rs2 s
  | .fsqrtd rd rs2 => Sys2Proof.Machine.execFsqrtd rd rs2 s
  | .fsqrtx rd rs2 => Sys2Proof.Machine.execFsqrtx rd rs2 s
  | .fadds rd rs1 rs2 => Sys2Proof.Machine.execFadds rd rs1 rs2 s
  | .faddd rd rs1 rs2 => Sys2Proof.Machine.execFaddd rd rs1 rs2 s
  | .faddx rd rs1 rs2 => Sys2Proof.Machine.execFaddx rd rs1 rs2 s
  | .fsubs rd rs1 rs2 => Sys2Proof.Machine.execFsubs rd rs1 rs2 s
  | .fsubd rd rs1 rs2 => Sys2Proof.Machine.execFsubd rd rs1 rs2 s
  | .fsubx rd rs1 rs2 => Sys2Proof.Machine.execFsubx rd rs1 rs2 s
  | .fmuls rd rs1 rs2 => Sys2Proof.Machine.execFmuls rd rs1 rs2 s
  | .fmuld rd rs1 rs2 => Sys2Proof.Machine.execFmuld rd rs1 rs2 s
  | .fmulx rd rs1 rs2 => Sys2Proof.Machine.execFmulx rd rs1 rs2 s
  | .fdivs rd rs1 rs2 => Sys2Proof.Machine.execFdivs rd rs1 rs2 s
  | .fdivd rd rs1 rs2 => Sys2Proof.Machine.execFdivd rd rs1 rs2 s
  | .fdivx rd rs1 rs2 => Sys2Proof.Machine.execFdivx rd rs1 rs2 s
  | .fitos rd rs2 => Sys2Proof.Machine.execFitos rd rs2 s
  | .fdtos rd rs2 => Sys2Proof.Machine.execFdtos rd rs2 s
  | .fxtos rd rs2 => Sys2Proof.Machine.execFxtos rd rs2 s
  | .fitod rd rs2 => Sys2Proof.Machine.execFitod rd rs2 s
  | .fstod rd rs2 => Sys2Proof.Machine.execFstod rd rs2 s
  | .fxtod rd rs2 => Sys2Proof.Machine.execFxtod rd rs2 s
  | .fitox rd rs2 => Sys2Proof.Machine.execFitox rd rs2 s
  | .fstox rd rs2 => Sys2Proof.Machine.execFstox rd rs2 s
  | .fdtox rd rs2 => Sys2Proof.Machine.execFdtox rd rs2 s
  | .fstoi rd rs2 => Sys2Proof.Machine.execFstoi rd rs2 s
  | .fdtoi rd rs2 => Sys2Proof.Machine.execFdtoi rd rs2 s
  | .fxtoi rd rs2 => Sys2Proof.Machine.execFxtoi rd rs2 s
  | .fcmps rs1 rs2 => Sys2Proof.Machine.execFcmps rs1 rs2 s
  | .fcmpd rs1 rs2 => Sys2Proof.Machine.execFcmpd rs1 rs2 s
  | .fcmpx rs1 rs2 => Sys2Proof.Machine.execFcmpx rs1 rs2 s
  | .fcmpes rs1 rs2 => Sys2Proof.Machine.execFcmpes rs1 rs2 s
  | .fcmped rs1 rs2 => Sys2Proof.Machine.execFcmped rs1 rs2 s
  | .fcmpex rs1 rs2 => Sys2Proof.Machine.execFcmpex rs1 rs2 s
  | .fpop1 rd rs1 opf rs2 => Sys2Proof.Machine.execFpop1 rd rs1 opf rs2 s
  | .fpop2 rd rs1 opf rs2 => Sys2Proof.Machine.execFpop2 rd rs1 opf rs2 s
  | .cpop1 rd rs1 opc rs2 => Sys2Proof.Machine.execCpop1 rd rs1 opc rs2 s
  | .cpop2 rd rs1 opc rs2 => Sys2Proof.Machine.execCpop2 rd rs1 opc rs2 s
  | .jmpl rd rs1 o2 => Sys2Proof.Machine.execJmpl rd rs1 o2 s
  | .rett rs1 o2 => Sys2Proof.Machine.execRett rs1 o2 s
  | .tn rs1 o2 => Sys2Proof.Machine.execTn rs1 o2 s
  | .te rs1 o2 => Sys2Proof.Machine.execTe rs1 o2 s
  | .tle rs1 o2 => Sys2Proof.Machine.execTle rs1 o2 s
  | .tl rs1 o2 => Sys2Proof.Machine.execTl rs1 o2 s
  | .tleu rs1 o2 => Sys2Proof.Machine.execTleu rs1 o2 s
  | .tcs rs1 o2 => Sys2Proof.Machine.execTcs rs1 o2 s
  | .tneg rs1 o2 => Sys2Proof.Machine.execTneg rs1 o2 s
  | .tvs rs1 o2 => Sys2Proof.Machine.execTvs rs1 o2 s
  | .ta rs1 o2 => Sys2Proof.Machine.execTa rs1 o2 s
  | .tne rs1 o2 => Sys2Proof.Machine.execTne rs1 o2 s
  | .tg rs1 o2 => Sys2Proof.Machine.execTg rs1 o2 s
  | .tge rs1 o2 => Sys2Proof.Machine.execTge rs1 o2 s
  | .tgu rs1 o2 => Sys2Proof.Machine.execTgu rs1 o2 s
  | .tcc rs1 o2 => Sys2Proof.Machine.execTcc rs1 o2 s
  | .tpos rs1 o2 => Sys2Proof.Machine.execTpos rs1 o2 s
  | .tvc rs1 o2 => Sys2Proof.Machine.execTvc rs1 o2 s
  | .iflush rs1 o2 => Sys2Proof.Machine.execIflush rs1 o2 s
  | .save rd rs1 o2 => Sys2Proof.Machine.execSave rd rs1 o2 s
  | .restore rd rs1 o2 => Sys2Proof.Machine.execRestore rd rs1 o2 s
  | .ld rd rs1 o2 => Sys2Proof.Machine.execLd rd rs1 o2 s
  | .ldub rd rs1 o2 => Sys2Proof.Machine.execLdub rd rs1 o2 s
  | .lduh rd rs1 o2 => Sys2Proof.Machine.execLduh rd rs1 o2 s
  | .ldd rd rs1 o2 => Sys2Proof.Machine.execLdd rd rs1 o2 s
  | .st rd rs1 o2 => Sys2Proof.Machine.execSt rd rs1 o2 s
  | .stb rd rs1 o2 => Sys2Proof.Machine.execStb rd rs1 o2 s
  | .sth rd rs1 o2 => Sys2Proof.Machine.execSth rd rs1 o2 s
  | .std rd rs1 o2 => Sys2Proof.Machine.execStd rd rs1 o2 s
  | .ldsb rd rs1 o2 => Sys2Proof.Machine.execLdsb rd rs1 o2 s
  | .ldsh rd rs1 o2 => Sys2Proof.Machine.execLdsh rd rs1 o2 s
  | .ldstub rd rs1 o2 => Sys2Proof.Machine.execLdstub rd rs1 o2 s
  | .swap rd rs1 o2 => Sys2Proof.Machine.execSwap rd rs1 o2 s
  | .lda rd rs1 rs2 asi => Sys2Proof.Machine.execLda rd rs1 rs2 asi s
  | .lduba rd rs1 rs2 asi => Sys2Proof.Machine.execLduba rd rs1 rs2 asi s
  | .lduha rd rs1 rs2 asi => Sys2Proof.Machine.execLduha rd rs1 rs2 asi s
  | .ldda rd rs1 rs2 asi => Sys2Proof.Machine.execLdda rd rs1 rs2 asi s
  | .sta rd rs1 rs2 asi => Sys2Proof.Machine.execSta rd rs1 rs2 asi s
  | .stba rd rs1 rs2 asi => Sys2Proof.Machine.execStba rd rs1 rs2 asi s
  | .stha rd rs1 rs2 asi => Sys2Proof.Machine.execStha rd rs1 rs2 asi s
  | .stda rd rs1 rs2 asi => Sys2Proof.Machine.execStda rd rs1 rs2 asi s
  | .ldsba rd rs1 rs2 asi => Sys2Proof.Machine.execLdsba rd rs1 rs2 asi s
  | .ldsha rd rs1 rs2 asi => Sys2Proof.Machine.execLdsha rd rs1 rs2 asi s
  | .ldstuba rd rs1 rs2 asi => Sys2Proof.Machine.execLdstuba rd rs1 rs2 asi s
  | .swapa rd rs1 rs2 asi => Sys2Proof.Machine.execSwapa rd rs1 rs2 asi s
  | .ldf rd rs1 o2 => Sys2Proof.Machine.execLdf rd rs1 o2 s
  | .ldfsr rs1 o2 => Sys2Proof.Machine.execLdfsr rs1 o2 s
  | .lddf rd rs1 o2 => Sys2Proof.Machine.execLddf rd rs1 o2 s
  | .stf rd rs1 o2 => Sys2Proof.Machine.execStf rd rs1 o2 s
  | .stfsr rs1 o2 => Sys2Proof.Machine.execStfsr rs1 o2 s
  | .stdfq rs1 o2 => Sys2Proof.Machine.execStdfq rs1 o2 s
  | .stdf rd rs1 o2 => Sys2Proof.Machine.execStdf rd rs1 o2 s
  | .ldc rd rs1 o2 => Sys2Proof.Machine.execLdc rd rs1 o2 s
  | .ldcsr rs1 o2 => Sys2Proof.Machine.execLdcsr rs1 o2 s
  | .lddc rd rs1 o2 => Sys2Proof.Machine.execLddc rd rs1 o2 s
  | .stc rd rs1 o2 => Sys2Proof.Machine.execStc rd rs1 o2 s
  | .stcsr rs1 o2 => Sys2Proof.Machine.execStcsr rs1 o2 s
  | .stdcq rs1 o2 => Sys2Proof.Machine.execStdcq rs1 o2 s
  | .stdc rd rs1 o2 => Sys2Proof.Machine.execStdc rd rs1 o2 s

end Sys2Proof.Machine
end

