-- ==== Sys2Proof/Machine/Fetch.lean ====
section
/-! DEFINITION. One step, given what an instruction does: the environment's sample, reset, holds, interrupts, the
annulled instruction, fetching, hardware errors and decoding (R29, R52, R85, R243, R334, R361, R398, R450). -/

namespace Sys2Proof.Machine

/-- The FPU as its own lines drive it (R11, R433, R434): FCC anew; FEXC asserted, with the unfinished instructions in the
queue (R55, R343) and the f registers free where their results were to go. While FEXC is asserted, or where no instruction is
given, there is no new exception (log 53). -/
def Pins.onFpu (p : Pins) (u : Fpu) : Fpu :=
  let u := { u with fcc := p.fcc.getD u.fcc }
  if u.excPending || p.fexc.isEmpty then u
  else { fpRecognises p.fexc u with f := Config.fUnfinished p.fexc u }

/-- The coprocessor as its own lines drive it, as `Pins.onFpu` (R11, R50, R433, R434). -/
def Pins.onCp (p : Pins) (u : Coprocessor) : Coprocessor :=
  let u := { u with ccc := p.ccc.getD u.ccc }
  if u.excPending || p.cexc.isEmpty then u
  else { cpRecognises p.cexc u with c := Config.cUnfinished p.cexc u }

/-- The step takes its environment sample: quiet pins where none is left; the units drive their lines (R11); other masters'
bytes are written (R84). -/
def State.nextSample (s : State) : State :=
  let p := s.env.headD Pins.quiet
  { s with
    pins := p, env := s.env.tail, events := [], wrote := [], badLoad := false
    fpu := p.onFpu s.fpu, cp := p.onCp s.cp, mem := writeCells s.mem p.masterWrites }

/-! ### Fetching -/

/-- The word at PC now. -/
def State.currentWord (s : State) : Word := readValue s.platform s.mem s.fetchAsi s.pc .word

/-- The word at PC before the stores of the instruction executed last (D8). -/
def State.staleWord1 (s : State) : Word :=
  readValue s.platform (writeCells s.mem s.recent1) s.fetchAsi s.pc .word

/-- The word at PC before the stores of the last two executed instructions (D8). -/
def State.staleWord2 (s : State) : Word :=
  readValue s.platform (writeCells (writeCells s.mem s.recent1) s.recent2) s.fetchAsi s.pc .word

/-- Neither of the last two executed instructions has changed the word at PC. -/
def State.fetchSettled (s : State) : Bool := s.staleWord1 == s.currentWord && s.staleWord2 == s.currentWord

/-- The word a fetch returns: a free choice of old and new where one of the last two executed instructions stored to it
(R85, D8). -/
def State.fetchedWord (s : State) : Word :=
  if s.fetchSettled then s.currentWord
  else if Config.freeBool s.draws then s.currentWord
  else if Config.freeBool (s.draws + 1) then s.staleWord1
  else s.staleWord2

/-- The event of a fetch (R431). -/
def fetchEvent (asi : Asi) (addr : Word) : Event :=
  .bus { kind := .fetch, asi, addr, size := .word, data := none, locked := false, atomic := false }

/-- The fetches of a step: the word at PC, and up to five words beyond it that the IU reads ahead. What these return is not
kept: the word that is executed is fetched again in its own step (R78, R240). -/
def State.fetchEvents (s : State) : List Event :=
  (List.range (1 + min s.pins.prefetch 5)).map (fun k => fetchEvent s.fetchAsi (s.pc + 4#32 * BitVec.ofNat 32 k))

/-- The state after the fetches: other masters' bytes are written before the first data access (R84). -/
def State.afterFetch (s : State) : State :=
  { s with events := s.events ++ s.fetchEvents, mem := writeCells s.mem s.pins.midWrites }

/-- The fetch transaction at PC (R59, R61, R71, R79); a device drives the word, free where the environment gives none (R429). -/
def busFetch (s : State) : Access :=
  let seen := s.afterFetch
  let drawn := if s.fetchSettled then seen else seen.drawn.drawn
  if s.pins.fetchMexc then .exception seen
  else match regionKind s.platform s.fetchAsi s.pc with
    | .ram => .ok s.fetchedWord drawn
    | .rom => .ok s.fetchedWord drawn
    | .device => .ok (fromDevice s.pins.fetchData seen).1 (fromDevice s.pins.fetchData seen).2
    | .absent => .exception seen

/-- An annulled instruction: its word enters the checksum and nothing else happens (R52, R243, R392). -/
def State.skip (s : State) (w : Word) : State :=
  { s with
    ir := w
    pfcSum := if s.cfg.flowEnabled then s.pfcSum ^^^ w else s.pfcSum
    annulNext := false, condDelay := false
    pc := s.npc, npc := s.npc + 4#32 }

/-- The step of an annulled instruction: it is fetched, and cannot trap (R243); the word of a refused fetch is free. -/
def annulledStep (s : State) : Result :=
  match busFetch s with
  | .ok w t => .next (t.skip w)
  | .exception t => .next (t.drawn.skip (Config.freeWord t.draws))
  | .reset t => .next t.enterReset

/-! ### Hardware errors (61_fault_tolerance.md) -/

/-- The hardware errors the environment can report, highest priority first (R398, R400). -/
def reportable : List HwError :=
  [.imprecise, .nonRestartablePrecise, .registerFile, .restartableLate, .restartablePrecise]

/-- The reported hardware error of the highest priority (R400). -/
def topError (errors : List HwError) : Option HwError := reportable.find? (fun e => errors.contains e)

/-- The hardware errors of the instruction at PC, with a parity error of its fetched word (R403). -/
def State.instructionErrors (s : State) : List HwError :=
  if s.cfg.parityInEnabled && s.pins.fetchParity then .restartablePrecise :: s.pins.errors else s.pins.errors

/-- A hardware error is taken before its instruction (R399): the precise ones save its PC and nPC, for the imprecise one the
saved pair is "not meaningful", so free. -/
def raiseError (e : HwError) (s : State) : Result :=
  match e with
  | .imprecise =>
    .next (raiseAt (Config.freeWord s.draws) (Config.freeWord (s.draws + 1)) (.hardware .imprecise) s.drawn.drawn)
  | .nonRestartablePrecise => raise (.hardware .nonRestartablePrecise) s
  | .registerFile => raise (.hardware .registerFile) s
  | .restartableLate => raise (.hardware .restartableLate) s
  | .restartablePrecise => raise (.hardware .restartablePrecise) s
  | .programFlow => raise (.hardware .programFlow) s

/-- The state in which a late error supersedes the trap of its instruction, which led from `before` to `after` (R334): that
of `before` with the bus accesses the instruction made, what a refused store or unit load left (D11, R165), and no trap. -/
def supersede (before after : State) : State :=
  { before with
    mem := after.mem, wrote := after.wrote, badLoad := after.badLoad, pins := after.pins, draws := after.draws
    events := after.events.takeWhile (fun e => e != .flush)
    fpu := { before.fpu with f := after.fpu.f }, cp := { before.cp with c := after.cp.c } }

/-- A late error (R399): one the environment reports, or bad data that a load has taken. It is taken after its instruction,
saving the PC and nPC of the next one. Where the instruction itself traps, the late error supersedes that trap, which has a
lower priority (R334, R400). -/
def lateError (reported : Bool) (before : State) (r : Result) : Result :=
  match r with
  | .next t =>
    if t.mode == .reset || !(reported || t.badLoad) then .next t
    else if t.events.contains .flush then
      .next (raiseAt before.npc (before.npc + 4#32) (.hardware .restartableLate) (supersede before t))
    else .next (raiseAt t.resumePair.1 t.resumePair.2 (.hardware .restartableLate) t)
  | .fault f => .fault f
  | .refused f => .refused f

/-! ### The instruction at PC -/

/-- A fetched word is run: a reserved word raises illegal_instruction (R108). -/
def runWord (run : Instr → State → Result) (w : Word) (s : State) : Result :=
  match decode w with
  | .ok i => run i { s with ir := w }
  | .error _ => raise .illegalInstruction { s with ir := w }

/-- The instruction at PC: a hardware error comes before a refused fetch, that before decoding (R334). -/
def instructionStep (run : Instr → State → Result) (s : State) : Result :=
  match busFetch s with
  | .ok w t =>
    match topError t.instructionErrors with
    | some .restartableLate => lateError true { t with ir := w } (runWord run w t)
    | some e => raiseError e t
    | none => lateError false { t with ir := w } (runWord run w t)
  | .exception t =>
    match topError t.pins.errors with
    | some .restartableLate => .next (raiseAt t.npc (t.npc + 4#32) (.hardware .restartableLate) t)
    | some e => raiseError e t
    | none => raise .instructionAccess t
  | .reset t => .next t.enterReset

/-- An enabled interrupt request (R361). -/
def State.interruptDue (s : State) : Bool :=
  s.psr.et && s.pins.irl != 0#4 && (s.pins.irl == 15#4 || decide (s.psr.pil.toNat < s.pins.irl.toNat))

/-- HWERROR is deasserted in execute mode when the error has been removed (R404, R438). -/
def State.settleHwerror (s : State) : State := { s with hwerror := s.hwerror && s.pins.errorRemains }

/-- A step in execute mode: an interrupt is taken between instructions unless a hardware error reported for the
instruction at PC supersedes it (R333, R361); then the annulled or the ordinary instruction. Wrong parity of the word at PC
does not hold an interrupt back: the word is fetched after it (DESIGN CHOICE, log 27). The step of an interrupt fetches
nothing, an annulled word at PC not either: R240 has it "always fetched", R352 has it skipped (DESIGN CHOICE, log 54). -/
def executeStep (run : Instr → State → Result) (s : State) : Result :=
  if s.interruptDue && (s.annulNext || (topError s.pins.errors).isNone) then .next (takeInterrupt s.pins.irl s)
  else if s.annulNext then annulledStep s
  else instructionStep run s

/-- A step after its sample is taken: FPSYN high is refused (R436); an error in the coding of RESET leads to error mode
(R451, log 48); RESET comes before everything else (R450); HALT and holds let nothing happen (R440, R470); reset mode is
left when RESET is (R450); error mode stays (R356). -/
def sampledStep (run : Instr → State → Result) (s : State) : Result :=
  if s.cfg.fpsyn then .refused .fpsynHigh
  else if s.pins.resetFault then .next s.enterError
  else if s.pins.reset then .next s.enterReset
  else if s.pins.halt || s.pins.hold then .next s
  else match s.mode with
    | .reset => .next s.leaveReset
    | .error => .next s
    | .execute => executeStep run s.settleHwerror

/-! ### Placing an instruction -/

/-- The instruction at PC can be fetched: where the platform map has no storage, a region of RAM is put first. -/
def readableAt (platform : List Region) (asi : Asi) (addr : Word) : List Region :=
  match regionKind platform asi addr with
  | .ram => platform
  | .rom => platform
  | .device => { asiLo := asi, asiHi := asi, base := addr.toNat, size := 4, kind := .ram, stored := none } :: platform
  | .absent => { asiLo := asi, asiHi := asi, base := addr.toNat, size := 4, kind := .ram, stored := none } :: platform

/-- The state in which the next step fetches and runs the word `w`: the word stored at PC, and nothing in the way of its
fetch (mode, annul, recent stores, pins). -/
def placeWord (w : Word) (s : State) : State :=
  let platform := readableAt s.platform s.fetchAsi s.pc
  { s with
    mem := writeCells s.mem (cellsAt platform s.fetchAsi s.pc (bytesOfWord w)), platform
    cfg := { s.cfg with fpsyn := false }
    mode := .execute, annulNext := false, recent1 := [], recent2 := [], env := [] }

end Sys2Proof.Machine
end

