-- ==== Sys2Proof/Machine/Step.lean ====
section
/-! DEFINITION. The step function: one environment sample and what it leads to. -/

namespace Sys2Proof.Machine

/-- One step of the machine. -/
def step (s : State) : Host.Outcome State Fault Refusal := sampledStep exec s.nextSample

/-- The state with an instruction's bits stored where the next step fetches, the bits above `nbits` zero. -/
def State.withFetchWord (s : State) (nbits w : Nat) : State := placeWord (BitVec.ofNat 32 (w % 2 ^ nbits)) s

end Sys2Proof.Machine
end

