-- ==== Sys2Proof/Safety.lean ====
section
/-! DEFINITION. What counts as a good state and a safe run, in the terms the claims use. -/

namespace Sys2Proof.Machine

/-- The low two bits of an address are 0. -/
def WordAligned (a : Word) : Prop := a.extractLsb' 0 2 = 0#2

/-- The invariant every step keeps: PC and nPC are word aligned (R32), memory is in its canonical form, the place of
r[0] holds 0 (R24), a unit is in exception mode only while its queue has entries (R55; log 12, log 53). That its queue has
entries only with an exception pending or in exception mode is the model's choice, not the spec's: an FPop or CPop is executed
wholly at its launch, where R303 has a launched one wait in the queue (DESIGN CHOICE, log 9), and an asserted FEXC or CEXC
comes with unfinished instructions (DESIGN CHOICE, log 53). -/
structure State.Good (s : State) : Prop where
  pc : WordAligned s.pc
  npc : WordAligned s.npc
  mem : Memory.wf s.mem = true
  zero : s.regs[0] = 0#32
  fpQueue : s.fpu.excMode = true → s.fpu.queue ≠ []
  cpQueue : s.cp.excMode = true → s.cp.queue ≠ []
  /-- The choice of log 9 and log 53. -/
  fpIdle : s.fpu.excPending = false → s.fpu.excMode = false → s.fpu.queue = []
  /-- The choice of log 9 and log 53. -/
  cpIdle : s.cp.excPending = false → s.cp.excMode = false → s.cp.queue = []

/-- An outcome that is a next state outside error mode. -/
def SafeOutcome : Host.Outcome State Fault Refusal → Prop
  | .next s => s.mode ≠ .error
  | .fault _ => False
  | .refused _ => False

/-- A run of `n` steps that never faults, is refused or enters error mode. -/
def SafeRun : Nat → State → Prop
  | 0, s => s.mode ≠ .error
  | n + 1, s => s.mode ≠ .error ∧ ∃ t, step s = .next t ∧ SafeRun n t

end Sys2Proof.Machine
end

