-- ==== Sys2Proof/Frames.lean ====
section
/-! DEFINITION. The terms in which the claims say what an instruction leaves behind: two states that agree on everything
the spec gives the machine, the state an instruction ends in when it does nothing else, and the shapes of effects. -/

namespace Sys2Proof.Machine

/-- `t` and `u` agree on every piece of state but the model's own record (pins, samples to come, events, draws, the
records of recent stores and of bad load data); memory is compared byte by byte. -/
structure Agree (t u : State) : Prop where
  cfg : t.cfg = u.cfg
  platform : t.platform = u.platform
  mode : t.mode = u.mode
  pc : t.pc = u.pc
  npc : t.npc = u.npc
  ir : t.ir = u.ir
  psr : t.psr = u.psr
  wim : t.wim = u.wim
  tba : t.tba = u.tba
  tt : t.tt = u.tt
  y : t.y = u.y
  regs : ∀ j : Fin 136, t.regs[j.val] = u.regs[j.val]
  annulNext : t.annulNext = u.annulNext
  condDelay : t.condDelay = u.condDelay
  pfcSum : t.pfcSum = u.pfcSum
  pfcCheckEnabled : t.pfcCheckEnabled = u.pfcCheckEnabled
  fpu : t.fpu = u.fpu
  cp : t.cp = u.cp
  cpCompare : t.cpCompare = u.cpCompare
  hwerror : t.hwerror = u.hwerror
  mem : ∀ k : Nat, readCell t.mem k = readCell u.mem k

/-- `s` after an instruction that does nothing but end: PC and nPC move on (R16), with program flow control on the word
enters the checksum (R391), and the marks of R255 and R257 fall. -/
def State.ended (s : State) : State :=
  { s with
    pc := s.npc
    npc := s.npc + 4#32
    pfcSum := if s.cfg.flowEnabled then s.pfcSum ^^^ s.ir else s.pfcSum
    condDelay := false
    cpCompare := false }

/-- The register file `regs` is that of `s` with `v` in register `rd` of window `w`; a write to r[0] is discarded. -/
def WritesReg (regs : Vector Word 136) (s : State) (w : BitVec 3) (rd : Reg) (v : Word) : Prop :=
  ∀ j : Fin 136, regs[j.val] = if rd ≠ 0#5 ∧ j = regIndex w rd then v else s.regs[j.val]

/-- The result is a next state in which r[rd] of the window of `psr` holds `v`, the PSR is `psr`, Y is `y`, and nothing
else has changed but what the end of an instruction changes. -/
def EndsWith (r : Result) (s : State) (rd : Reg) (v : Word) (psr : PSR) (y : Word) : Prop :=
  ∃ t, r = .next t ∧ WritesReg t.regs s psr.cwp rd v ∧ Agree t { s.ended with psr := psr, y := y, regs := t.regs }

/-- Byte `i` after `ea` in the memory of `s`, in address space `asi`. -/
def State.byteAt (s : State) (asi : Asi) (ea : Word) (i : Nat) : Byte :=
  readCell s.mem (cellKey s.platform asi (ea + BitVec.ofNat 32 i))

/-- The word at `ea`, big-endian (R60). -/
def State.wordAt (s : State) (asi : Asi) (ea : Word) : Word :=
  s.byteAt asi ea 0 ++ s.byteAt asi ea 1 ++ s.byteAt asi ea 2 ++ s.byteAt asi ea 3

/-- No access of the step is refused by the environment or cut off by RESET, and no loaded data is bad. -/
def State.undisturbed (s : State) : Prop := (∀ x ∈ s.pins.dataAnswers, x = BusAnswer.ready) ∧ s.loadSuspect = false

/-- The platform map has storage that can be read there. -/
def State.readable (s : State) (asi : Asi) (ea : Word) : Prop :=
  regionKind s.platform asi ea = .ram ∨ regionKind s.platform asi ea = .rom

/-- The platform map has storage that can be written there. -/
def State.writable (s : State) (asi : Asi) (ea : Word) : Prop := regionKind s.platform asi ea = .ram

/-- `t` holds the bytes `bs` from `ea` on, and every other byte of memory as `s` does; which storage an address has is the
platform map of `s`. -/
def Stores (t s : State) (asi : Asi) (ea : Word) (bs : List Byte) : Prop :=
  (∀ i : Fin bs.length, readCell t.mem (cellKey s.platform asi (ea + BitVec.ofNat 32 i)) = bs[i.val])
  ∧ ∀ k : Nat, (∀ i, i < bs.length → k ≠ cellKey s.platform asi (ea + BitVec.ofNat 32 i)) →
      readCell t.mem k = readCell s.mem k

/-- The result is a next state in which the bytes `bs` are stored at `ea` and nothing else has changed but what the end of
an instruction changes. -/
def EndsStoring (r : Result) (s : State) (asi : Asi) (ea : Word) (bs : List Byte) : Prop :=
  ∃ t, r = .next t ∧ Stores t s asi ea bs ∧ Agree t { s.ended with mem := t.mem }

/-- The bytes of a word, the most significant first (R60). -/
def bytesBE (v : Word) : List Byte :=
  [v.extractLsb' 24 8, v.extractLsb' 16 8, v.extractLsb' 8 8, v.extractLsb' 0 8]

/-- icc of the sum of `a`, `b` and a carry, from the 33-bit sum (R191, R192). -/
def sumIcc (a b : Word) (cin : Bool) : Icc :=
  let wide : BitVec 33 := a.setWidth 33 + b.setWidth 33 + (BitVec.ofBool cin).setWidth 33
  { n := wide.getLsbD 31
    z := wide.extractLsb' 0 32 == 0#32
    v := (a.getLsbD 31 == b.getLsbD 31) && (wide.getLsbD 31 != a.getLsbD 31)
    c := wide.getLsbD 32 }

/-- icc of `a` minus `b` minus a borrow, by the bit formulas of R193 (R191). -/
def differenceIcc (a b : Word) (cin : Bool) : Icc :=
  let res : Word := a - b - (BitVec.ofBool cin).setWidth 32
  { n := res.getLsbD 31
    z := res == 0#32
    v := (a.getLsbD 31 != b.getLsbD 31) && (res.getLsbD 31 != a.getLsbD 31)
    c := (!a.getLsbD 31 && b.getLsbD 31) || (res.getLsbD 31 && (!a.getLsbD 31 || b.getLsbD 31)) }

/-- icc of a logical result (R191, R194). -/
def plainIcc (res : Word) : Icc := { n := res.getLsbD 31, z := res == 0#32, v := false, c := false }

/-- A conditional branch: with `ok` of the state and no branch before it, it goes to its target where `taken` holds and
annuls its delay instruction as Table 17 says (R242, R245). -/
def Branches (i : Bool → BitVec 22 → Instr) (always : Bool) (ok : State → Prop) (taken : State → Bool) : Prop :=
  ∀ (s : State) (a : Bool) (d : BitVec 22), s.condDelay = false → ok s → ∃ t, exec (i a d) s = .next t ∧
    Agree t { s.ended with
      npc := if taken s then s.pc + (d ++ 0#2).signExtend 32 else s.npc + 4#32
      annulNext := a && (always || !taken s)
      condDelay := !always }

/-- A conditional branch in the delay slot of a conditional branch (R257): nPC is some word-aligned address (D15, log 21), and
everything else is as outside the couple. -/
def BranchesInSlot (i : Bool → BitVec 22 → Instr) (always : Bool) (ok : State → Prop) (taken : State → Bool) : Prop :=
  ∀ (s : State) (a : Bool) (d : BitVec 22), s.condDelay = true → ok s → ∃ t, exec (i a d) s = .next t ∧ WordAligned t.npc ∧
    Agree t { s.ended with npc := t.npc, annulNext := a && (always || !taken s), condDelay := !always }

/-- A Ticc: where `cond` holds of icc, the software trap of the low seven bits of the sum; else nothing (R266). -/
def TrapsOn (i : Reg → Operand2 → Instr) (cond : Icc → Bool) : Prop :=
  ∀ (s : State) (rs1 : Reg) (o2 : Operand2),
    (cond s.psr.icc = true → exec (i rs1 o2) s = .next
      (raiseAt s.pc s.npc (.trapInstruction (BitVec.ofNat 7 ((s.reg rs1 + operand2 o2 s).toNat % 128))) s))
    ∧ (cond s.psr.icc = false → ∃ t, exec (i rs1 o2) s = .next t ∧ Agree t s.ended)

/-- The result is a next state that agrees with `u`. -/
def EndsAs (r : Result) (u : State) : Prop := ∃ t, r = .next t ∧ Agree t u

/-- The instruction takes the synchronous trap `t`, saving its own PC and nPC (R335). -/
def Traps (t : Trap) (i : Instr) (s : State) : Prop := exec i s = .next (raiseAt s.pc s.npc t s)

/-- The register file `regs` is that of `s` with `hi` in the even and `lo` in the odd register of the pair of `rd` in window
`w`; a write to r[0] is discarded (R126). -/
def WritesPair (regs : Vector Word 136) (s : State) (w : BitVec 3) (rd : Reg) (hi lo : Word) : Prop :=
  ∀ j : Fin 136, regs[j.val] =
    if j = regIndex w (rd ||| 1#5) then lo
    else if rd &&& 30#5 ≠ 0#5 ∧ j = regIndex w (rd &&& 30#5) then hi
    else s.regs[j.val]

/-- The result is a next state in which the pair of `rd` holds `hi` and `lo` and nothing else has changed but what the end
of an instruction changes. -/
def EndsWithPair (r : Result) (s : State) (rd : Reg) (hi lo : Word) : Prop :=
  ∃ t, r = .next t ∧ WritesPair t.regs s s.psr.cwp rd hi lo ∧ Agree t { s.ended with regs := t.regs }

/-- The result is a next state in which r[rd] holds `v`, the bytes `bs` are stored at `ea`, and nothing else has changed but
what the end of an instruction changes. -/
def EndsSwapping (r : Result) (s : State) (rd : Reg) (v : Word) (asi : Asi) (ea : Word) (bs : List Byte) : Prop :=
  ∃ t, r = .next t ∧ WritesReg t.regs s s.psr.cwp rd v ∧ Stores t s asi ea bs
    ∧ Agree t { s.ended with regs := t.regs, mem := t.mem }

/-- The shift distance of R220: r[rs2] modulo 32, or the five bits of the instruction. -/
def shiftDistance (c : ShiftCount) (s : State) : Nat :=
  match c with
  | .reg rs2 => (s.reg rs2).toNat % 32
  | .imm shcnt => shcnt.toNat

/-- The environment lets an access through to the memory system. -/
def BusAnswer.passes : BusAnswer → Prop
  | .ready | .data _ => True
  | .mexc | .reset => False

/-- The memory system completes the k-th data access of the step, at `ea` in `asi`. -/
def State.grants (s : State) (k : Nat) (asi : Asi) (ea : Word) (write : Bool) : Prop :=
  BusAnswer.passes (s.pins.dataAnswers.getD k .ready)
  ∧ (regionKind s.platform asi ea = .ram ∨ regionKind s.platform asi ea = .device
    ∨ (write = false ∧ regionKind s.platform asi ea = .rom))

/-- The memory system answers the k-th data access of the step, at `ea` in `asi`, with MEXC. -/
def State.refuses (s : State) (k : Nat) (asi : Asi) (ea : Word) (write : Bool) : Prop :=
  s.pins.dataAnswers.getD k .ready = .mexc
  ∨ (BusAnswer.passes (s.pins.dataAnswers.getD k .ready)
    ∧ (regionKind s.platform asi ea = .absent ∨ (write = true ∧ regionKind s.platform asi ea = .rom)))

/-- The environment sample the next step reads (R443). -/
def State.sample (s : State) : Pins := s.env.headD Pins.quiet

/-- Execute mode, in a configuration the spec admits (R29, R436). -/
def State.running (s : State) : Prop := s.mode = .execute ∧ s.cfg.fpsyn = false

/-- Nothing changes memory or a unit's lines from outside before the step. -/
def Pins.still (p : Pins) : Prop :=
  p.masterWrites = [] ∧ p.fcc = none ∧ p.fexc = [] ∧ p.ccc = none ∧ p.cexc = []

/-- The sample neither resets nor stops the machine, and nothing is changed from outside before the step. -/
def Pins.unheld (p : Pins) : Prop :=
  p.reset = false ∧ p.resetFault = false ∧ p.halt = false ∧ p.hold = false ∧ p.still

/-- The fetch of the step is not refused, and nothing is reported wrong with it or with loaded data. -/
def Pins.faultless (p : Pins) : Prop :=
  p.errors = [] ∧ p.fetchMexc = false ∧ p.fetchParity = false ∧ p.loadParity = false

/-- The interrupt condition of R361. -/
def InterruptRequested (s : State) (p : Pins) : Prop :=
  s.psr.et = true ∧ p.irl ≠ 0#4 ∧ (p.irl = 15#4 ∨ s.psr.pil < p.irl)

/-- The word at PC in the instruction space of the mode. -/
def State.wordAtPc (s : State) : Word := s.wordAt s.fetchAsi s.pc

/-- `s` as a step in execute mode finds it: HWERROR has fallen if the error it indicates has been removed (R404). -/
def State.settled (s : State) : State := { s with hwerror := s.hwerror && s.sample.errorRemains }

/-- `s` after its fetch: other masters may have written since (R84). -/
def State.fetched (s : State) : State := { s.settled with mem := writeCells s.mem s.sample.midWrites }

/-- The outputs of the fetches of a step: the word at PC, then those the IU reads ahead, at most five (R78). -/
def State.fetches (s : State) : List Event :=
  (List.range (1 + min s.sample.prefetch 5)).map fun k =>
    .bus { kind := .fetch, asi := s.fetchAsi, addr := s.pc + 4#32 * BitVec.ofNat 32 k, size := .word, data := none
           locked := false, atomic := false }

/-- `s` as its instruction finds it: the sample taken, the word fetched, the fetches put out. -/
def State.started (s : State) : State :=
  { s.fetched with
    ir := s.wordAtPc, pins := s.sample, env := s.env.tail, wrote := [], badLoad := false, events := s.fetches }

/-- The reserved words of R108: reserved op2, reserved op3, and the alternate-space forms with i = 1. -/
def ReservedWord (w : Word) : Prop :=
  let op : BitVec 2 := w.extractLsb' 30 2
  let op2 : BitVec 3 := w.extractLsb' 22 3
  let op3 : BitVec 6 := w.extractLsb' 19 6
  (op = 0b00#2 ∧ op2 ∈ [0b001#3, 0b011#3, 0b101#3])
  ∨ (op = 0b10#2 ∧ op3 ∈ [0b001001#6, 0b001010#6, 0b001011#6, 0b001101#6, 0b001110#6, 0b001111#6, 0b011001#6, 0b011010#6,
      0b011011#6, 0b011101#6, 0b011110#6, 0b011111#6, 0b101100#6, 0b101101#6, 0b101110#6, 0b101111#6, 0b111110#6,
      0b111111#6])
  ∨ (op = 0b11#2 ∧ op3 ∈ [0b001000#6, 0b001011#6, 0b001100#6, 0b001110#6, 0b011000#6, 0b011011#6, 0b011100#6, 0b011110#6,
      0b100010#6, 0b101000#6, 0b101001#6, 0b101010#6, 0b101011#6, 0b101100#6, 0b101101#6, 0b101110#6, 0b101111#6,
      0b110010#6, 0b111000#6, 0b111001#6, 0b111010#6, 0b111011#6, 0b111100#6, 0b111101#6, 0b111110#6, 0b111111#6])
  ∨ (op = 0b11#2 ∧ w.getLsbD 13 = true ∧ op3 ∈ [0b010000#6, 0b010001#6, 0b010010#6, 0b010011#6, 0b010100#6, 0b010101#6,
      0b010110#6, 0b010111#6, 0b011001#6, 0b011010#6, 0b011101#6, 0b011111#6])

/-- The sixteen FBfcc (R251). -/
def fbfccForms (a : Bool) (d : BitVec 22) : List Instr :=
  [.fbn a d, .fbne a d, .fblg a d, .fbul a d, .fbl a d, .fbug a d, .fbg a d, .fbu a d, .fba a d, .fbe a d, .fbue a d,
   .fbge a d, .fbuge a d, .fble a d, .fbule a d, .fbo a d]

/-- The sixteen CBccc (R254). -/
def cbcccForms (a : Bool) (d : BitVec 22) : List Instr :=
  [.cbn a d, .cb123 a d, .cb12 a d, .cb13 a d, .cb1 a d, .cb23 a d, .cb2 a d, .cb3 a d, .cba a d, .cb0 a d, .cb03 a d,
   .cb02 a d, .cb023 a d, .cb01 a d, .cb013 a d, .cb012 a d]

/-- The FPops, named or not (R104, R105, R302). -/
def fpopForms (rd rs1 rs2 : Reg) (opf : BitVec 9) : List Instr :=
  [.fmovs rd rs2, .fnegs rd rs2, .fabss rd rs2, .fsqrts rd rs2, .fsqrtd rd rs2, .fsqrtx rd rs2,
   .fadds rd rs1 rs2, .faddd rd rs1 rs2, .faddx rd rs1 rs2, .fsubs rd rs1 rs2, .fsubd rd rs1 rs2, .fsubx rd rs1 rs2,
   .fmuls rd rs1 rs2, .fmuld rd rs1 rs2, .fmulx rd rs1 rs2, .fdivs rd rs1 rs2, .fdivd rd rs1 rs2, .fdivx rd rs1 rs2,
   .fitos rd rs2, .fdtos rd rs2, .fxtos rd rs2, .fitod rd rs2, .fstod rd rs2, .fxtod rd rs2, .fitox rd rs2, .fstox rd rs2,
   .fdtox rd rs2, .fstoi rd rs2, .fdtoi rd rs2, .fxtoi rd rs2, .fcmps rs1 rs2, .fcmpd rs1 rs2, .fcmpx rs1 rs2,
   .fcmpes rs1 rs2, .fcmped rs1 rs2, .fcmpex rs1 rs2, .fpop1 rd rs1 opf rs2, .fpop2 rd rs1 opf rs2]

/-- The floating-point loads and stores of one word (R68). -/
def fpWordForms (rd rs1 : Reg) (o2 : Operand2) : List Instr :=
  [.ldf rd rs1 o2, .stf rd rs1 o2, .ldfsr rs1 o2, .stfsr rs1 o2]

/-- The floating-point loads and stores of two words other than STDFQ (R68). -/
def fpDoubleForms (rd rs1 : Reg) (o2 : Operand2) : List Instr := [.lddf rd rs1 o2, .stdf rd rs1 o2]

/-- The coprocessor loads and stores of one word (R68). -/
def cpWordForms (rd rs1 : Reg) (o2 : Operand2) : List Instr :=
  [.ldc rd rs1 o2, .stc rd rs1 o2, .ldcsr rs1 o2, .stcsr rs1 o2]

/-- The coprocessor loads and stores of two words other than STDCQ (R68). -/
def cpDoubleForms (rd rs1 : Reg) (o2 : Operand2) : List Instr := [.lddc rd rs1 o2, .stdc rd rs1 o2]

/-- The alternate-space loads, stores and atomics (R139). -/
def alternateForms (rd rs1 rs2 : Reg) (asi : Asi) : List Instr :=
  [.ldsba rd rs1 rs2 asi, .ldsha rd rs1 rs2 asi, .lduba rd rs1 rs2 asi, .lduha rd rs1 rs2 asi, .lda rd rs1 rs2 asi,
   .ldda rd rs1 rs2 asi, .stba rd rs1 rs2 asi, .stha rd rs1 rs2 asi, .sta rd rs1 rs2 asi, .stda rd rs1 rs2 asi,
   .ldstuba rd rs1 rs2 asi, .swapa rd rs1 rs2 asi]

/-- The FPU is disabled or absent (R341). -/
def State.fpOff (s : State) : Prop := s.psr.ef = false ∨ s.cfg.fpPresent = false

/-- The coprocessor is disabled or absent (R342). -/
def State.cpOff (s : State) : Prop := s.psr.ec = false ∨ s.cfg.cpPresent = false

/-- A floating-point instruction finds the FPU enabled, present, with no exception pending and not in exception mode. -/
def State.fpReady (s : State) : Prop :=
  s.psr.ef = true ∧ s.cfg.fpPresent = true ∧ s.fpu.excPending = false ∧ s.fpu.excMode = false

/-- The same for a coprocessor instruction. -/
def State.cpReady (s : State) : Prop :=
  s.psr.ec = true ∧ s.cfg.cpPresent = true ∧ s.cp.excPending = false ∧ s.cp.excMode = false

/-- The f registers of `t` are those of `s` with `v r` in each register `r` of `dest`. -/
def WritesF (t s : State) (dest : List Reg) (v : Reg → Word) : Prop :=
  ∀ r : Reg, t.freg r = if r ∈ dest then v r else s.freg r

/-- The c registers of `t` are those of `s` with `v r` in each register `r` of `dest`. -/
def WritesC (t s : State) (dest : List Reg) (v : Reg → Word) : Prop :=
  ∀ r : Reg, t.creg r = if r ∈ dest then v r else s.creg r

/-- The FPop `opf` on the words of the registers `a` (rs1) and `b` (rs2), run by a ready FPU. Either the FPU detects its
exception: the instruction stays in the queue with its address, no result is written and the exception is pending (R306). Or
the registers `dest` take the words of the result, the FSR takes the value the FPU gives it, and the rest of the FPU is as it
was. In both cases the instruction ends as any other. -/
def FpComputes (i : Instr) (opf : BitVec 9) (a b dest : List Reg) : Prop :=
  ∀ s : State, s.fpReady →
    let va := a.map s.freg
    let vb := b.map s.freg
    if Config.fpRaises opf va vb (fsrWord s.fpu) then EndsAs (exec i s)
      { s.ended with fpu := { s.fpu with
          queue := s.fpu.queue ++ [(s.pc, s.ir)], excPending := true, fsr := Config.fsrAfterException s.ir (fsrWord s.fpu) } }
    else ∃ t, exec i s = .next t
      ∧ WritesF t s dest (fun r => Config.fpResult opf va vb (fsrWord s.fpu) (dest.idxOf r))
      ∧ Agree t { s.ended with fpu := { s.fpu with f := t.fpu.f, fsr := Config.fsrAfterFpop opf va vb (fsrWord s.fpu) } }

/-- The same for an FPop that copies f[rs2], changed by `g`, to f[rd] (R310). -/
def FpCopies (i : Instr) (opf : BitVec 9) (rd rs2 : Reg) (g : Word → Word) : Prop :=
  ∀ s : State, s.fpReady →
    if Config.fpRaises opf [] [s.freg rs2] (fsrWord s.fpu) then EndsAs (exec i s)
      { s.ended with fpu := { s.fpu with
          queue := s.fpu.queue ++ [(s.pc, s.ir)], excPending := true, fsr := Config.fsrAfterException s.ir (fsrWord s.fpu) } }
    else ∃ t, exec i s = .next t
      ∧ WritesF t s [rd] (fun _ => g (s.freg rs2))
      ∧ Agree t { s.ended with fpu := { s.fpu with
          f := t.fpu.f, fsr := Config.fsrAfterFpop opf [] [s.freg rs2] (fsrWord s.fpu) } }

/-- The same for an FPop that writes only the condition codes (R310). -/
def FpCompares (i : Instr) (opf : BitVec 9) (a b : List Reg) : Prop :=
  ∀ s : State, s.fpReady →
    let va := a.map s.freg
    let vb := b.map s.freg
    if Config.fpRaises opf va vb (fsrWord s.fpu) then EndsAs (exec i s)
      { s.ended with fpu := { s.fpu with
          queue := s.fpu.queue ++ [(s.pc, s.ir)], excPending := true, fsr := Config.fsrAfterException s.ir (fsrWord s.fpu) } }
    else EndsAs (exec i s)
      { s.ended with fpu := { s.fpu with
          fcc := Config.fpRelation opf va vb (fsrWord s.fpu), fsr := Config.fsrAfterFpop opf va vb (fsrWord s.fpu) } }

/-- The registers of a double operand: the even one holds the most significant word (R310, R49). -/
def doubleGroup (r : Reg) : List Reg := [r &&& 30#5, r ||| 1#5]

/-- The registers of an extended operand, the first forced even, the most significant word first (R310). -/
def quadGroup (r : Reg) : List Reg := [r &&& 30#5, r ||| 1#5, (r &&& 30#5) + 2#5, (r &&& 30#5) + 3#5]

/-- The instruction takes data_access_exception, saving its own PC and nPC, and has no other effect (R347). -/
def Refused (i : Instr) (s : State) : Prop := EndsAs (exec i s) (raiseAt s.pc s.npc .dataAccess s)

/-- The same, but for the pair of f registers of `rd`, of which nothing is said (R165). -/
def RefusedFpPair (i : Instr) (s : State) (rd : Reg) : Prop :=
  ∃ t, exec i s = .next t ∧ (∀ r, r ∉ doubleGroup rd → t.freg r = s.freg r)
    ∧ Agree t { raiseAt s.pc s.npc .dataAccess s with fpu := { s.fpu with f := t.fpu.f } }

/-- The same, but for the pair of c registers of `rd`. -/
def RefusedCpPair (i : Instr) (s : State) (rd : Reg) : Prop :=
  ∃ t, exec i s = .next t ∧ (∀ r, r ∉ doubleGroup rd → t.creg r = s.creg r)
    ∧ Agree t { raiseAt s.pc s.npc .dataAccess s with cp := { s.cp with c := t.cp.c } }

/-- The same, but for the word at `ea`, which is either as before or `first` (R80, D11). -/
def RefusedStore (i : Instr) (s : State) (asi : Asi) (ea first : Word) : Prop :=
  ∃ t, exec i s = .next t ∧ Agree t { raiseAt s.pc s.npc .dataAccess s with mem := t.mem }
    ∧ ((∀ k : Nat, readCell t.mem k = readCell s.mem k) ∨ Stores t s asi ea (bytesBE first))

/-- A floating-point instruction finds the FPU enabled, present, with no exception pending and in exception mode (R55). -/
def State.fpInExceptionMode (s : State) : Prop :=
  s.psr.ef = true ∧ s.cfg.fpPresent = true ∧ s.fpu.excPending = false ∧ s.fpu.excMode = true

/-- The same for a coprocessor instruction. -/
def State.cpInExceptionMode (s : State) : Prop :=
  s.psr.ec = true ∧ s.cfg.cpPresent = true ∧ s.cp.excPending = false ∧ s.cp.excMode = true

/-- The FPU of `t` is still in exception mode, with the queue entries it had in `s` in front (R55). -/
def KeepsFpMode (t s : State) : Prop := t.fpu.excMode = true ∧ s.fpu.queue <+: t.fpu.queue

/-- The same for the coprocessor. -/
def KeepsCpMode (t s : State) : Prop := t.cp.excMode = true ∧ s.cp.queue <+: t.cp.queue

/-- The late hardware error is what the step takes once the instruction at PC has led to `u`: it is reported and no error of
higher priority is (R400), or nothing is reported, no interrupt is due and the instruction has loaded bad data (R403). -/
def LateErrorDue (s u : State) : Prop :=
  (HwError.restartableLate ∈ s.sample.errors ∧ ∀ e ∈ s.sample.errors, 4 ≤ e.priority)
  ∨ (s.sample.errors = [] ∧ (s.cfg.parityInEnabled && s.sample.fetchParity) = false ∧ ¬ InterruptRequested s s.sample
    ∧ u.badLoad = true)

/-- The instruction completes with bad data among what it loaded, in a next state with `p`. -/
def TakesBad (i : Instr) (s : State) (p : State → Prop) : Prop := ∃ t, exec i s = .next t ∧ t.badLoad = true ∧ p t

/-- The instruction completes with bad data, some value in r[rd], and nothing else changed but what its end changes. -/
def LoadsBadReg (i : Instr) (s : State) (rd : Reg) : Prop :=
  TakesBad i s fun t => ∃ v, WritesReg t.regs s s.psr.cwp rd v ∧ Agree t { s.ended with regs := t.regs }

/-- The same for an atomic that stores the bytes `bs` at `ea`. -/
def SwapsBad (i : Instr) (s : State) (rd : Reg) (asi : Asi) (ea : Word) (bs : List Byte) : Prop :=
  TakesBad i s fun t => ∃ v, WritesReg t.regs s s.psr.cwp rd v ∧ Stores t s asi ea bs
    ∧ Agree t { s.ended with regs := t.regs, mem := t.mem }

/-- The integer loads and atomics of one address space, each aligned at `ea`, take bad data where storage answers. -/
def LoadsBad (s : State) (asi : Asi) (ea : Word) (rd : Reg) (ldsb ldub ldsh lduh ld ldd ldstub swap : Instr) : Prop :=
  (s.readable asi ea →
    LoadsBadReg ldsb s rd ∧ LoadsBadReg ldub s rd
    ∧ (ea.getLsbD 0 = false → LoadsBadReg ldsh s rd ∧ LoadsBadReg lduh s rd)
    ∧ (ea.extractLsb' 0 2 = 0#2 → LoadsBadReg ld s rd)
    ∧ (ea.extractLsb' 0 3 = 0#3 → s.readable asi (ea + 4#32) →
        TakesBad ldd s fun t => ∃ hi lo, WritesPair t.regs s s.psr.cwp rd hi lo ∧ Agree t { s.ended with regs := t.regs }))
  ∧ (s.writable asi ea →
    SwapsBad ldstub s rd asi ea [0xFF#8]
    ∧ (ea.extractLsb' 0 2 = 0#2 → SwapsBad swap s rd asi ea (bytesBE (s.reg rd))))

/-- The CPop `i`, of CPop2 where `second`, run by a ready coprocessor. Either the coprocessor raises its exception: the
instruction stays in the queue with its address, no result is written and the exception is pending (R309). Or its c registers,
CSR and condition codes are those the coprocessor gives them, and the rest of it is as it was. In both cases the instruction
ends as any other, but that a compare opens the spacing of R255 and no CPop closes it. -/
def CpopRuns (i : Instr) (s : State) (second : Bool) (opc : BitVec 9) (rd rs1 rs2 : Reg) : Prop :=
  let v := Config.cpopEffect second opc rd rs1 rs2 s.pc s.cp
  let ends := { s.ended with cpCompare := Config.cpopIsCompare second opc || s.cpCompare }
  if Config.cpopRaises second opc rd rs1 rs2 s.pc s.cp then EndsAs (exec i s)
    { ends with cp := { s.cp with
        queue := s.cp.queue ++ [(s.pc, s.ir)], excPending := true, csr := Config.csrAfterException s.ir (csrWord s.cp) } }
  else EndsAs (exec i s) { ends with cp := { s.cp with c := v.c, csr := v.csr, ccc := v.ccc } }

end Sys2Proof.Machine
end

