-- ==== Sys2Proof/Certificates/Slice0/Obligations.lean ====
section
/-! DEFINITION. The statements for the provers, from the numbered rules of the spec. -/

open Sys2Proof Sys2Proof.Machine

/-- Words written out from the encoding tables decode to the instructions they stand for (R91, R92, R93, R98, R99,
R100, R104, R105). One word of each family, written out bit by bit from the formats (R91 to R93) and the op, op2, op3,
cond and opf tables, decodes to the instruction the spec gives beside it. -/
def Obligations.WrittenWordsDecode : Prop :=
  decode 0x86804002#32 = .ok (.addcc 3#5 1#5 (.reg 2#5))
  ∧ decode 0x86007FFF#32 = .ok (.add 3#5 1#5 (.imm 0x1FFF#13))
  ∧ decode 0x87286005#32 = .ok (.sll 3#5 1#5 (.imm 5#5))
  ∧ decode 0x03048D15#32 = .ok (.sethi 1#5 0x048D15#22)
  ∧ decode 0x01000000#32 = .ok .nop
  ∧ decode 0xC6484002#32 = .ok (.ldsb 3#5 1#5 (.reg 2#5))
  ∧ decode 0xD0386008#32 = .ok (.std 8#5 1#5 (.imm 8#13))
  ∧ decode 0xC6E84162#32 = .ok (.ldstuba 3#5 1#5 2#5 0x0B#8)
  ∧ decode 0xC5186008#32 = .ok (.lddf 2#5 1#5 (.imm 8#13))
  ∧ decode 0x32BFFFFE#32 = .ok (.bne true 0x3FFFFE#22)
  ∧ decode 0x13C00007#32 = .ok (.cb0 false 7#22)
  ∧ decode 0x7FFFFFFF#32 = .ok (.call 0x3FFFFFFF#30)
  ∧ decode 0x93D0207F#32 = .ok (.tne 0#5 (.imm 0x7F#13))
  ∧ decode 0x9DE3BFA0#32 = .ok (.save 14#5 14#5 (.imm 0x1FA0#13))
  ∧ decode 0x818820E0#32 = .ok (.wrpsr 0#5 (.imm 0xE0#13))
  ∧ decode 0x87A04822#32 = .ok (.fadds 3#5 1#5 2#5)
  ∧ decode 0x87B04002#32 = .ok (.cpop1 3#5 1#5 0#9 2#5)

/-- Decoding the encoding of any well-formed instruction gives it back (R90, R91, R92, R93, R94, R98, R99, R100, R106,
R107). For every well-formed instruction, with every operand at every value its fields admit, decode of encode is the
instruction: no operand bit is dropped and no two instructions share a word. -/
def Obligations.EncodedInstructionDecodes : Prop :=
  ∀ i : Instr, i.wellFormed = true → decode (encode i) = .ok i

/-- Every word that decodes gives a well-formed instruction (R104, R105, R110, R114). The decoder never answers a
SETHI whose word is NOP or PFCHECK, nor an FPop by its bare opf where the opf names an operation: the row with the
larger mask names the instruction (R114). -/
def Obligations.DecodedInstructionIsWellFormed : Prop :=
  ∀ (w : Word) (i : Instr), decode w = .ok i → i.wellFormed = true

/-- Exactly the reserved words are refused by the decoder, and they and UNIMP raise illegal_instruction (R98, R99,
R100, R107, R108, R320). A word has no instruction exactly when its op, op2, op3 or i field is reserved; run at PC
such a word, whatever EF and EC hold, and UNIMP raise illegal_instruction; every other word is an instruction. That
the reserved op3 values of the floating-point and coprocessor quadrants do so too is the decision D12 (log 30). -/
def Obligations.ReservedWordsAreIllegal : Prop :=
  (∀ w : Word, (∃ e, decode w = .error e) ↔ ReservedWord w)
  ∧ (∀ (w : Word) (s : State), ReservedWord w →
      runWord exec w s = .next (raiseAt s.pc s.npc .illegalInstruction { s with ir := w }))
  ∧ ∀ (c : BitVec 22) (s : State), Traps .illegalInstruction (.unimp c) s

/-- A step runs the instruction whose word stands at PC (R16, R29, R59, R61, R71, R78, R84, R335, R361, R398). In
execute mode, with no annul, no reset, hold, interrupt or reported error in the sample, a readable word at PC that the
last two instructions did not store to and that decodes to i: step is exec of i at the state in which the sample is
taken, the word is in the instruction register, the outputs so far are the fetch and those of up to five words the IU
reads ahead, and other masters have written what they write between the fetch and the data access. -/
def Obligations.StepRunsDecodedInstruction : Prop :=
  ∀ (s : State) (i : Instr), s.running → s.annulNext = false → s.sample.unheld → s.sample.faultless →
    ¬ InterruptRequested s s.sample → s.readable s.fetchAsi s.pc → s.fetchSettled = true →
    decode s.wordAtPc = .ok i → step s = exec i s.started

/-- Every step keeps the invariant Good (R24, R32, R55, R69). From every state with word-aligned PC and nPC, memory in
its canonical form, 0 in the place of r[0], a unit in exception mode only with entries in its queue, and entries there
only with an exception pending or in exception mode, every step that answers a next state answers one with the same
properties, whatever the environment does. That a queue has entries only then is the choice of log 9 (an FPop or CPop
is executed wholly at its launch, where R303 has a launched one wait in the queue) and of log 53 (an asserted FEXC or
CEXC comes with at least one unfinished instruction), not the spec's; that exception mode has entries rests on R55 and
on log 12 and log 53. -/
def Obligations.StepKeepsGood : Prop :=
  ∀ s t : State, s.Good → step s = .next t → t.Good

/-- The state after reset meets the invariant Good (R24, R32, R57). State.reset has aligned PC and nPC, canonical
memory, 0 in the place of r[0], empty queues and no exception mode. Of these R57 gives PC and nPC; the 0 in the place
of r[0], the empty queues and no exception mode are the choice of log 1, and the empty memory that of log 2. -/
def Obligations.ResetIsGood : Prop :=
  State.reset.Good

/-- No step changes the static input pins or the platform map; with FPSYN high every step is refused (R10, R73, R436).
Whatever the instruction and the environment, the configuration of R10 and the platform map of D10 are the same after
a step. A configuration with FPSYN high is refused (I21, log 32). -/
def Obligations.StepKeepsConfiguration : Prop :=
  (∀ s t : State, step s = .next t → t.cfg = s.cfg ∧ t.platform = s.platform)
  ∧ ∀ s : State, s.cfg.fpsyn = true → step s = .refused .fpsynHigh

/-- A step in user mode changes no supervisor register, and reaches supervisor mode only through a trap or reset
(R370, R371, R373, R351, R450). From every state with S = 0: WIM, TBA, PIL, EC and EF are unchanged by any step. If S
is still 0 then PS and ET are unchanged too. If S has become 1 then either a trap was entered (ET = 0, PS = 0, PC at
the trap table entry TBR, nPC four beyond) or reset mode was left (ET = 0, PC = 0, nPC = 4, PS unchanged). -/
def Obligations.UserModeIsConfined : Prop :=
  ∀ s t : State, s.psr.s = false → step s = .next t →
    t.wim = s.wim ∧ t.tba = s.tba ∧ t.psr.pil = s.psr.pil ∧ t.psr.ec = s.psr.ec ∧ t.psr.ef = s.psr.ef
    ∧ (t.psr.s = false → t.psr.ps = s.psr.ps ∧ t.psr.et = s.psr.et)
    ∧ (t.psr.s = true → t.psr.et = false ∧
        ((t.psr.ps = false ∧ t.pc = t.tba ++ t.tt ++ 0#4 ∧ t.npc = t.pc + 4#32)
          ∨ (s.mode = .reset ∧ t.mode = .execute ∧ t.pc = 0#32 ∧ t.npc = 4#32 ∧ t.psr.ps = s.psr.ps)))

/-- In error mode nothing happens until RESET, and a held machine keeps its state (R29, R356, R377, R440). With no
other master writing and no unit driving its lines anew: in error mode with RESET not asserted a step answers a state
still in error mode that agrees with the old one; in any mode so does a step under HALT or a hold. -/
def Obligations.OnlyResetLeavesErrorMode : Prop :=
  (∀ s : State, s.cfg.fpsyn = false → s.mode = .error → s.sample.reset = false → s.sample.still →
      EndsAs (step s) s)
  ∧ ∀ s : State, s.cfg.fpsyn = false → s.sample.reset = false → s.sample.resetFault = false →
      s.sample.still → (s.sample.halt = true ∨ s.sample.hold = true) → EndsAs (step s) s

/-- RESET enters reset mode at once and, when deasserted, starts execution at 0 with ET = 0 and S = 1 (R450, R396,
R404, R453). In every mode a step with RESET asserted changes the mode to reset, deasserts HWERROR and does nothing
else. In reset mode a step with RESET deasserted (and no hold) sets ET = 0, S = 1, PC = 0, nPC = 4, no annul (D5, log
14), checksum 0 and checking enabled, enters execute mode and changes nothing else: that the units keep their
registers, queues and exception flags is log 50 (the spacing marks of R255 and R257, the model's own, fall). -/
def Obligations.ResetSequence : Prop :=
  (∀ s : State, s.cfg.fpsyn = false → s.sample.resetFault = false → s.sample.still → s.sample.reset = true →
      EndsAs (step s) { s with mode := .reset, hwerror := false })
  ∧ ∀ s : State, s.cfg.fpsyn = false → s.sample.unheld → s.mode = .reset →
      EndsAs (step s)
        { s with
          mode := .execute, psr := { s.psr with et := false, s := true }, pc := 0#32, npc := 4#32
          annulNext := false, condDelay := false, cpCompare := false, pfcSum := 0#32, pfcCheckEnabled := true }

/-- The state after power-on reset holds the values the spec gives (R57, R59, R71, R396). Execute mode, PC = 0, nPC =
4, ET = 0, S = 1, no annul, checksum 0, checking enabled, and the first fetch in the supervisor instruction space.
(The other registers hold 0, the choice of log 1.) -/
def Obligations.PowerOnValues : Prop :=
  State.reset.mode = .execute ∧ State.reset.pc = 0#32 ∧ State.reset.npc = 4#32 ∧ State.reset.psr.et = false
  ∧ State.reset.psr.s = true ∧ State.reset.annulNext = false ∧ State.reset.pfcSum = 0#32
  ∧ State.reset.pfcCheckEnabled = true ∧ State.reset.fetchAsi = 0x09#8

/-- What taking a trap saves, changes and leaves (R55, R336, R343, R344, R351, R404). With ET = 1 a trap of any type
with the pair PC, nPC it is given (for a synchronous trap those of the instruction) sets ET = 0, PS = old S, S = 1,
CWP one lower, r[17] and r[18] of the new window to the pair, tt to the trap type, PC to TBR and nPC to TBR + 4,
clears the annul flag and, with program flow control, the check flag; the next fetch is in the supervisor instruction
space; from then on no interrupt is recognised and a synchronous trap leads to error mode; nothing else changes, but
that a hardware error asserts HWERROR (R336, R404; that it is still asserted right after the trap is log 51) and that
a unit whose own exception is taken is acknowledged and is then in exception mode if its queue has entries (R55, R343,
R344); the mark of R257 is the model's own. -/
def Obligations.TrapEntry : Prop :=
  ∀ (t : Trap) (s : State), s.psr.et = true →
    raise t s = .next (raiseAt s.pc s.npc t s)
    ∧ ∀ a b : Word, ∃ u, u = raiseAt a b t s
      ∧ (∀ j : Fin 136, u.regs[j.val] =
          if j = regIndex (s.psr.cwp - 1#3) 17#5 then a
          else if j = regIndex (s.psr.cwp - 1#3) 18#5 then b else s.regs[j.val])
      ∧ Agree u
          { s with
            psr := { s.psr with et := false, ps := s.psr.s, s := true, cwp := s.psr.cwp - 1#3 }
            tt := t.tt, pc := s.tba ++ t.tt ++ 0#4, npc := (s.tba ++ t.tt ++ 0#4) + 4#32
            annulNext := false, condDelay := u.condDelay
            pfcCheckEnabled := if s.cfg.flowEnabled then false else s.pfcCheckEnabled
            fpu := if t = .fpException then { s.fpu with excPending := false, excMode := !s.fpu.queue.isEmpty } else s.fpu
            cp := if t = .cpException then { s.cp with excPending := false, excMode := !s.cp.queue.isEmpty } else s.cp
            regs := u.regs, hwerror := u.hwerror }
      ∧ (u.hwerror = true ↔ s.hwerror = true ∨ ∃ e, t = .hardware e)
      ∧ u.fetchAsi = 0x09#8
      ∧ (∀ p : Pins, ¬ InterruptRequested u p) ∧ (∀ t' : Trap, (raiseAt u.pc u.npc t' u).mode = .error)

/-- A synchronous trap with traps disabled does the trap entry, asserts ERROR and enters error mode (R43, R356). With
ET = 0 the saved pair, tt, PC and nPC are those of trap entry and the mode becomes error; a hardware error asserts
HWERROR (the level right after the trap: log 51), and a unit changes only by its own exception. That all steps of trap
entry are done is the choice of log 23 (D17). -/
def Obligations.TrapWithTrapsDisabled : Prop :=
  ∀ (t : Trap) (s : State), s.psr.et = false →
    ∃ u, raise t s = .next u ∧ u.mode = .error ∧ Event.error ∈ u.events
      ∧ (∀ j : Fin 136, u.regs[j.val] =
          if j = regIndex (s.psr.cwp - 1#3) 17#5 then s.pc
          else if j = regIndex (s.psr.cwp - 1#3) 18#5 then s.npc else s.regs[j.val])
      ∧ Agree u
          { s with
            mode := .error
            psr := { s.psr with ps := s.psr.s, s := true, cwp := s.psr.cwp - 1#3 }
            tt := t.tt, pc := s.tba ++ t.tt ++ 0#4, npc := (s.tba ++ t.tt ++ 0#4) + 4#32
            annulNext := false, condDelay := false
            pfcCheckEnabled := if s.cfg.flowEnabled then false else s.pfcCheckEnabled
            fpu := if t = .fpException then { s.fpu with excPending := false, excMode := !s.fpu.queue.isEmpty } else s.fpu
            cp := if t = .cpException then { s.cp with excPending := false, excMode := !s.cp.queue.isEmpty } else s.cp
            regs := u.regs, hwerror := u.hwerror }
      ∧ (u.hwerror = true ↔ s.hwerror = true ∨ ∃ e, t = .hardware e)

/-- The trap types and priorities of the trap table, and the error types of the locations (R333, R399, R400, R402).
Each trap has the tt value and the priority of Table 38, the hardware errors the tt values of Table 39 and the
priorities of Table 40; an upset in a location of Table 41 is an error of the type the table gives. -/
def Obligations.TrapTypesAndPriorities : Prop :=
  (Trap.instructionAccess.tt = 1#8 ∧ Trap.illegalInstruction.tt = 2#8 ∧ Trap.privilegedInstruction.tt = 3#8
    ∧ Trap.fpDisabled.tt = 4#8 ∧ Trap.cpDisabled.tt = 36#8 ∧ Trap.windowOverflow.tt = 5#8 ∧ Trap.windowUnderflow.tt = 6#8
    ∧ Trap.memAddressNotAligned.tt = 7#8 ∧ Trap.fpException.tt = 8#8 ∧ Trap.cpException.tt = 40#8
    ∧ Trap.dataAccess.tt = 9#8 ∧ Trap.tagOverflow.tt = 10#8)
  ∧ (∀ n : BitVec 7, (Trap.trapInstruction n).tt.toNat = 128 + n.toNat ∧ (Trap.trapInstruction n).priority = 12)
  ∧ (∀ l : BitVec 4, (Trap.interrupt l).tt.toNat = 16 + l.toNat ∧ (Trap.interrupt l).priority = 28 - l.toNat)
  ∧ (∀ e : HwError, (Trap.hardware e).priority = 2)
  ∧ (Trap.instructionAccess.priority = 3 ∧ Trap.illegalInstruction.priority = 4 ∧ Trap.privilegedInstruction.priority = 5
    ∧ Trap.fpDisabled.priority = 6 ∧ Trap.cpDisabled.priority = 6 ∧ Trap.windowOverflow.priority = 7
    ∧ Trap.windowUnderflow.priority = 7 ∧ Trap.memAddressNotAligned.priority = 8 ∧ Trap.fpException.priority = 9
    ∧ Trap.cpException.priority = 9 ∧ Trap.dataAccess.priority = 10 ∧ Trap.tagOverflow.priority = 11)
  ∧ (HwError.restartablePrecise.tt = 0x61#8 ∧ HwError.nonRestartablePrecise.tt = 0x62#8
    ∧ HwError.restartableLate.tt = 0x63#8 ∧ HwError.imprecise.tt = 0x64#8 ∧ HwError.registerFile.tt = 0x65#8
    ∧ HwError.programFlow.tt = 0x66#8)
  ∧ (HwError.imprecise.priority = 1 ∧ HwError.nonRestartablePrecise.priority = 2 ∧ HwError.registerFile.priority = 3
    ∧ HwError.restartableLate.priority = 4 ∧ HwError.restartablePrecise.priority = 5 ∧ HwError.programFlow.priority = 6)
  ∧ (ErrorLocation.registerFile.error.tt = 0x65#8 ∧ ErrorLocation.fetchStage.error.tt = 0x61#8
    ∧ ErrorLocation.decodeStage.error.tt = 0x62#8 ∧ ErrorLocation.executeStage.error.tt = 0x64#8
    ∧ ErrorLocation.writeStage.error.tt = 0x64#8 ∧ ErrorLocation.psr.error.tt = 0x64#8 ∧ ErrorLocation.wim.error.tt = 0x62#8
    ∧ ErrorLocation.tbr.error.tt = 0x62#8 ∧ ErrorLocation.y.error.tt = 0x61#8)

/-- A trap goes to the entry of its type in the 4096-byte table at TBA (R353). The PC after trap entry is TBA shifted
left by 12 plus 16 times tt, whatever else the state holds; the table entries of the hardware traps and interrupts lie
in its lower half and those of the Ticc in its upper half; two traps of different type go to different entries; the
entry is fetched from the supervisor instruction space; reset goes to 0. -/
def Obligations.HandlerAddress : Prop :=
  (∀ (t : Trap) (s : State) (a b : Word), (trapEntryAt a b t s).pc.toNat = s.tba.toNat * 4096 + 16 * t.tt.toNat
      ∧ (trapEntryAt a b t s).npc = (trapEntryAt a b t s).pc + 4#32 ∧ (trapEntryAt a b t s).fetchAsi = 0x09#8)
  ∧ (∀ t : Trap, 128 ≤ t.tt.toNat ↔ ∃ n, t = .trapInstruction n)
  ∧ (∀ (t u : Trap) (s : State) (a b c d : Word), (trapEntryAt a b t s).pc = (trapEntryAt c d u s).pc → t.tt = u.tt)
  ∧ ∀ s : State, s.leaveReset.pc = 0#32

/-- The couple JMPL, RETT at the end of a handler brings the trapped program back (R265, R351, R355, R263). For every
state with ET = 1, aligned PC and nPC and its own window valid, and every trap: running jmpl %l1,%g0 and then rett %l2
in the trap window restores PC, nPC, CWP, S and ET, and leaves icc, EC, EF, PIL, WIM, TBA, Y and memory as they were;
the r registers are those of the trapped program but for the two locals that trap entry wrote. -/
def Obligations.TrapAndReturn : Prop :=
  ∀ (t : Trap) (s : State), s.psr.et = true → WordAligned s.pc → WordAligned s.npc →
    s.wim.getLsbD s.psr.cwp.toNat = false →
    ∃ u v x, raise t s = .next u ∧ exec (.jmpl 0#5 17#5 (.imm 0#13)) u = .next v
      ∧ exec (.rett 18#5 (.imm 0#13)) v = .next x
      ∧ x.pc = s.pc ∧ x.npc = s.npc ∧ x.psr = { s.psr with ps := s.psr.s }
      ∧ x.wim = s.wim ∧ x.tba = s.tba ∧ x.y = s.y ∧ x.tt = t.tt
      ∧ (∀ k : Nat, readCell x.mem k = readCell s.mem k)
      ∧ ∀ j : Fin 136, j ≠ regIndex (s.psr.cwp - 1#3) 17#5 → j ≠ regIndex (s.psr.cwp - 1#3) 18#5 →
          x.regs[j.val] = s.regs[j.val]

/-- A requested interrupt is taken before the next instruction, an annulled one skipped first; no other is (R352,
R361, R362, R365). With ET = 1 and a level that is 15 or above PIL, and no hardware error reported, the step enters
the trap of type 16 + level, asserts INTACK and saves PC and nPC; with an annulled instruction at PC it saves nPC and
nPC + 4. That it is taken at the first boundary is the choice of log 24 (D18), and so before wrong parity of the word
at PC is looked at (log 27). With traps disabled, or at level 0, or at a level not above PIL and not 15, the step is
that of the instruction at PC. -/
def Obligations.InterruptRecognition : Prop :=
  (∀ s : State, s.running → s.sample.unheld → InterruptRequested s s.sample →
    (s.annulNext = true ∨ s.sample.errors = []) →
    ∃ t, step s = .next t ∧ Event.intack ∈ t.events ∧ t.tt = 0b0001#4 ++ s.sample.irl
      ∧ Agree t (trapEntryAt (if s.annulNext then s.npc else s.pc) (if s.annulNext then s.npc + 4#32 else s.npc)
          (.interrupt s.sample.irl) s.settled))
  ∧ ∀ s : State, s.running → s.sample.unheld →
    (s.psr.et = false ∨ s.sample.irl = 0#4 ∨ (s.sample.irl ≠ 15#4 ∧ s.sample.irl ≤ s.psr.pil)) →
    step s = if s.annulNext then annulledStep s.nextSample.settleHwerror else instructionStep exec s.nextSample.settleHwerror

/-- An annulled instruction changes nothing but PC, nPC and the annul flag, and never traps (R52, R78, R243, R337,
R392). With the annul flag set and no interrupt, the step fetches the word at PC, folds it into the checksum under
program flow control, clears the annul flag and moves PC and nPC on, whatever the word is and whatever hardware errors
are reported. So it does for every answer to the fetch: storage, a device, or refused, which raises nothing; the word
folded in is then free (log 25). -/
def Obligations.AnnulledInstructionDoesNothing : Prop :=
  (∀ s : State, s.running → s.annulNext = true → s.sample.unheld → ¬ InterruptRequested s s.sample →
      s.readable s.fetchAsi s.pc → s.fetchSettled = true → s.sample.fetchMexc = false →
      EndsAs (step s)
        { s.fetched with
          annulNext := false, condDelay := false, ir := s.wordAtPc, pc := s.npc, npc := s.npc + 4#32
          pfcSum := if s.cfg.flowEnabled then s.pfcSum ^^^ s.wordAtPc else s.pfcSum })
  ∧ ∀ s : State, s.running → s.annulNext = true → s.sample.unheld → ¬ InterruptRequested s s.sample →
      ∃ t, step s = .next t ∧ (s.cfg.flowEnabled = false → t.pfcSum = s.pfcSum)
        ∧ Agree t { s.fetched with
            annulNext := false, condDelay := false, pc := s.npc, npc := s.npc + 4#32, ir := t.ir, pfcSum := t.pfcSum }

/-- The hardware error of the highest priority is taken before anything of its instruction, the late one after it
(R334, R336, R398, R399, R400, R402, R403, R404). Of several errors the one of the highest priority is taken: a
precise one with the PC and nPC of the instruction at PC, which has no effect; the imprecise one likewise but with a
saved pair of which nothing is said; the late one, reported or found as bad load data, with the PC and nPC of the next
instruction: after the instruction has completed (the pair after an annulling branch is log 28), or in the place of
the trap it takes, which has a lower priority, or of its refused fetch. HWERROR is asserted, right after the trap too
(log 51). A load or atomic that takes bad data, of the ordinary or an alternate space, of one word or two, of an r
register or of a ready unit, writes some value in the place of each word it loads, and has no other effect than with
good data. That the environment may report the late error for any instruction, what is left of one whose trap it
supersedes, and the free pair and data are log 27. -/
def Obligations.HardwareErrors : Prop :=
  (∀ (s : State) (e : HwError), s.running → s.annulNext = false → s.sample.unheld →
      e ∈ s.sample.errors → e ≠ .programFlow → e ≠ .restartableLate →
      (∀ e' ∈ s.sample.errors, e.priority ≤ e'.priority) →
      ∃ t, step s = .next t ∧ Event.hwerror ∈ t.events ∧ t.hwerror = true
        ∧ (e ≠ .imprecise → Agree t (raiseAt s.pc s.npc (.hardware e) s.fetched))
        ∧ Agree t { raiseAt s.pc s.npc (.hardware e) s.fetched with regs := t.regs }
        ∧ ∀ j : Fin 136, j ≠ regIndex (s.psr.cwp - 1#3) 17#5 → j ≠ regIndex (s.psr.cwp - 1#3) 18#5 →
            t.regs[j.val] = s.regs[j.val])
  ∧ (∀ s u : State, s.running → s.annulNext = false → s.sample.unheld →
      s.readable s.fetchAsi s.pc → s.fetchSettled = true → s.sample.fetchMexc = false →
      runWord exec s.wordAtPc s.started = .next u → u.mode ≠ .reset → LateErrorDue s u →
      (Event.flush ∉ u.events →
        step s = .next (raiseAt (if u.annulNext then u.npc else u.pc) (if u.annulNext then u.npc + 4#32 else u.npc)
          (.hardware .restartableLate) u))
      ∧ (Event.flush ∈ u.events →
        EndsAs (step s) (raiseAt s.npc (s.npc + 4#32) (.hardware .restartableLate)
          { s.started with mem := u.mem, fpu := { s.fpu with f := u.fpu.f }, cp := { s.cp with c := u.cp.c } })))
  ∧ (∀ s : State, s.running → s.annulNext = false → s.sample.unheld →
      HwError.restartableLate ∈ s.sample.errors → (∀ e ∈ s.sample.errors, 4 ≤ e.priority) →
      (s.sample.fetchMexc = true ∨ regionKind s.platform s.fetchAsi s.pc = .absent) →
      EndsAs (step s) (raiseAt s.npc (s.npc + 4#32) (.hardware .restartableLate) s.fetched))
  ∧ ∀ (s : State) (rd rs1 rs2 : Reg) (o2 : Operand2) (asi : Asi),
      (∀ x ∈ s.pins.dataAnswers, x = BusAnswer.ready) → s.loadSuspect = true →
      (let ea := effectiveAddress rs1 o2 s;
        LoadsBad s s.dataAsi ea rd (.ldsb rd rs1 o2) (.ldub rd rs1 o2) (.ldsh rd rs1 o2) (.lduh rd rs1 o2) (.ld rd rs1 o2)
          (.ldd rd rs1 o2) (.ldstub rd rs1 o2) (.swap rd rs1 o2)
        ∧ (s.readable s.dataAsi ea → ea.extractLsb' 0 2 = 0#2 →
          (s.fpReady →
            TakesBad (.ldf rd rs1 o2) s (fun t => ∃ v, WritesF t s [rd] (fun _ => v)
              ∧ Agree t { s.ended with fpu := { s.fpu with f := t.fpu.f } })
            ∧ TakesBad (.ldfsr rs1 o2) s (fun t => ∃ v, Agree t { s.ended with fpu := { s.fpu with
                fsr := Config.fsrLoaded (fsrWord s.fpu) v, fcc := codeOf Config.fccPlace v } }))
          ∧ (s.cpReady →
            TakesBad (.ldc rd rs1 o2) s (fun t => ∃ v, WritesC t s [rd] (fun _ => v)
              ∧ Agree t { s.ended with cpCompare := s.cpCompare, cp := { s.cp with c := t.cp.c } })
            ∧ TakesBad (.ldcsr rs1 o2) s (fun t => ∃ v, Agree t { s.ended with
                cpCompare := s.cpCompare, cp := { s.cp with csr := v, ccc := codeOf Config.cccPlace v } })))
        ∧ (s.readable s.dataAsi ea → s.readable s.dataAsi (ea + 4#32) → ea.extractLsb' 0 3 = 0#3 →
          (s.fpReady → TakesBad (.lddf rd rs1 o2) s (fun t =>
            (∀ r, r ∉ doubleGroup rd → t.freg r = s.freg r)
            ∧ Agree t { s.ended with fpu := { s.fpu with f := t.fpu.f } }))
          ∧ (s.cpReady → TakesBad (.lddc rd rs1 o2) s (fun t =>
            (∀ r, r ∉ doubleGroup rd → t.creg r = s.creg r)
            ∧ Agree t { s.ended with cpCompare := s.cpCompare, cp := { s.cp with c := t.cp.c } }))))
      ∧ (s.psr.s = true →
        LoadsBad s asi (alternateAddress rs1 rs2 s) rd (.ldsba rd rs1 rs2 asi) (.lduba rd rs1 rs2 asi) (.ldsha rd rs1 rs2 asi)
          (.lduha rd rs1 rs2 asi) (.lda rd rs1 rs2 asi) (.ldda rd rs1 rs2 asi) (.ldstuba rd rs1 rs2 asi)
          (.swapa rd rs1 rs2 asi))

/-- An instruction whose fetch the memory system refuses raises instruction_access_exception (R79, R334, R337). Not
annulled, with no interrupt and no hardware error reported, whatever word would be there: the trap saves the PC and
nPC of that instruction. -/
def Obligations.RefusedFetchTraps : Prop :=
  ∀ s : State, s.running → s.annulNext = false → s.sample.unheld → ¬ InterruptRequested s s.sample →
    s.sample.errors = [] → (s.sample.fetchMexc = true ∨ regionKind s.platform s.fetchAsi s.pc = .absent) →
    EndsAs (step s) (raiseAt s.pc s.npc .instructionAccess s.fetched)

/-- ADD, SUB, ADDX, SUBX, AND, ANDN, OR, ORN, XOR and XNOR complete with their result and change nothing else (R24,
R190, R195, R197, R199, R201, R208, R210, R212, R214, R216, R218). For all operands: exec answers a next state in
which r[rd] holds the result (nothing, for rd = 0), icc and every other register, memory and all special registers are
as before, and PC and nPC have moved on. That ANDN and ORN complement the second operand and what XNOR computes is
from outside the source (log 39). -/
def Obligations.PlainResults : Prop :=
  ∀ (s : State) (rd rs1 : Reg) (o2 : Operand2),
    EndsWith (exec (.add rd rs1 o2) s) s rd (s.reg rs1 + operand2 o2 s) s.psr s.y
    ∧ EndsWith (exec (.sub rd rs1 o2) s) s rd (s.reg rs1 - operand2 o2 s) s.psr s.y
    ∧ EndsWith (exec (.addx rd rs1 o2) s) s rd (s.reg rs1 + operand2 o2 s + (BitVec.ofBool s.psr.icc.c).setWidth 32) s.psr s.y
    ∧ EndsWith (exec (.subx rd rs1 o2) s) s rd (s.reg rs1 - operand2 o2 s - (BitVec.ofBool s.psr.icc.c).setWidth 32) s.psr s.y
    ∧ EndsWith (exec (.and rd rs1 o2) s) s rd (s.reg rs1 &&& operand2 o2 s) s.psr s.y
    ∧ EndsWith (exec (.andn rd rs1 o2) s) s rd (s.reg rs1 &&& ~~~operand2 o2 s) s.psr s.y
    ∧ EndsWith (exec (.or rd rs1 o2) s) s rd (s.reg rs1 ||| operand2 o2 s) s.psr s.y
    ∧ EndsWith (exec (.orn rd rs1 o2) s) s rd (s.reg rs1 ||| ~~~operand2 o2 s) s.psr s.y
    ∧ EndsWith (exec (.xor rd rs1 o2) s) s rd (s.reg rs1 ^^^ operand2 o2 s) s.psr s.y
    ∧ EndsWith (exec (.xnor rd rs1 o2) s) s rd (~~~(s.reg rs1 ^^^ operand2 o2 s)) s.psr s.y

/-- ADDcc, ADDXcc, SUBcc and SUBXcc complete with their result and the four condition codes (R191, R192, R193, R196,
R198, R200, R202). icc is N and Z of the result, V by the sign formulas and C as bit 32 of the 33-bit sum, or by the
bit formula of the borrow; it is written for rd = 0 too; nothing else changes. The bit formulas for V and C of R192
and R193 are the ones the spec marks as outside its source (log 39). -/
def Obligations.SumsAndDifferencesWithCodes : Prop :=
  ∀ (s : State) (rd rs1 : Reg) (o2 : Operand2),
    EndsWith (exec (.addcc rd rs1 o2) s) s rd (s.reg rs1 + operand2 o2 s) { s.psr with icc := sumIcc (s.reg rs1) (operand2 o2 s) false } s.y
    ∧ EndsWith (exec (.addxcc rd rs1 o2) s) s rd (s.reg rs1 + operand2 o2 s + (BitVec.ofBool s.psr.icc.c).setWidth 32)
        { s.psr with icc := sumIcc (s.reg rs1) (operand2 o2 s) s.psr.icc.c } s.y
    ∧ EndsWith (exec (.subcc rd rs1 o2) s) s rd (s.reg rs1 - operand2 o2 s) { s.psr with icc := differenceIcc (s.reg rs1) (operand2 o2 s) false } s.y
    ∧ EndsWith (exec (.subxcc rd rs1 o2) s) s rd (s.reg rs1 - operand2 o2 s - (BitVec.ofBool s.psr.icc.c).setWidth 32)
        { s.psr with icc := differenceIcc (s.reg rs1) (operand2 o2 s) s.psr.icc.c } s.y

/-- ANDcc, ANDNcc, ORcc, ORNcc, XORcc and XNORcc complete with N and Z of the result and V = C = 0 (R191, R194, R209,
R211, R213, R215, R217, R219). For all operands; icc is written for rd = 0 too; nothing else changes. What ANDNcc,
ORNcc and XNORcc compute is from outside the source (log 39). -/
def Obligations.LogicWithCodes : Prop :=
  ∀ (s : State) (rd rs1 : Reg) (o2 : Operand2),
    EndsWith (exec (.andcc rd rs1 o2) s) s rd (s.reg rs1 &&& operand2 o2 s)
        { s.psr with icc := plainIcc (s.reg rs1 &&& operand2 o2 s) } s.y
    ∧ EndsWith (exec (.andncc rd rs1 o2) s) s rd (s.reg rs1 &&& ~~~operand2 o2 s)
        { s.psr with icc := plainIcc (s.reg rs1 &&& ~~~operand2 o2 s) } s.y
    ∧ EndsWith (exec (.orcc rd rs1 o2) s) s rd (s.reg rs1 ||| operand2 o2 s)
        { s.psr with icc := plainIcc (s.reg rs1 ||| operand2 o2 s) } s.y
    ∧ EndsWith (exec (.orncc rd rs1 o2) s) s rd (s.reg rs1 ||| ~~~operand2 o2 s)
        { s.psr with icc := plainIcc (s.reg rs1 ||| ~~~operand2 o2 s) } s.y
    ∧ EndsWith (exec (.xorcc rd rs1 o2) s) s rd (s.reg rs1 ^^^ operand2 o2 s)
        { s.psr with icc := plainIcc (s.reg rs1 ^^^ operand2 o2 s) } s.y
    ∧ EndsWith (exec (.xnorcc rd rs1 o2) s) s rd (~~~(s.reg rs1 ^^^ operand2 o2 s))
        { s.psr with icc := plainIcc (~~~(s.reg rs1 ^^^ operand2 o2 s)) } s.y

/-- TADDcc and TSUBcc set V on a nonzero tag; TADDccTV and TSUBccTV then raise tag_overflow, else complete (R191,
R194, R203, R204, R205, R206, R348). V is arithmetic overflow or a nonzero tag of either operand, C that of the
untagged form (taken from outside the source, log 39). The TV forms raise tag_overflow exactly where V would be 1,
with r[rd] and icc unwritten, and else complete with V = 0. -/
def Obligations.TaggedArithmetic : Prop :=
  ∀ (s : State) (rd rs1 : Reg) (o2 : Operand2),
    let a := s.reg rs1
    let b := operand2 o2 s
    let tag := a.extractLsb' 0 2 ≠ 0#2 ∨ b.extractLsb' 0 2 ≠ 0#2
    let va := (sumIcc a b false).v || decide tag
    let vs := (differenceIcc a b false).v || decide tag
    EndsWith (exec (.taddcc rd rs1 o2) s) s rd (a + b) { s.psr with icc := { sumIcc a b false with v := va } } s.y
    ∧ EndsWith (exec (.tsubcc rd rs1 o2) s) s rd (a - b) { s.psr with icc := { differenceIcc a b false with v := vs } } s.y
    ∧ (va = false → EndsWith (exec (.taddcctv rd rs1 o2) s) s rd (a + b)
        { s.psr with icc := { sumIcc a b false with v := false } } s.y)
    ∧ (va = true → Traps .tagOverflow (.taddcctv rd rs1 o2) s)
    ∧ (vs = false → EndsWith (exec (.tsubcctv rd rs1 o2) s) s rd (a - b)
        { s.psr with icc := { differenceIcc a b false with v := false } } s.y)
    ∧ (vs = true → Traps .tagOverflow (.tsubcctv rd rs1 o2) s)

/-- MULScc completes with the sum of the shifted operand and the selected addend, and shifts Y (R191, R192, R207).
r[rs1] is shifted right with N xor V entering, operand2 is added where Y[0] is 1, icc is that of this addition, and Y
is shifted right with r[rs1][0] entering. The step is the SPARC one, from outside the source (log 34). -/
def Obligations.MultiplyStep : Prop :=
  ∀ (s : State) (rd rs1 : Reg) (o2 : Operand2),
    let op1 : Word := (if s.psr.icc.n = s.psr.icc.v then 0#1 else 1#1) ++ (s.reg rs1).extractLsb' 1 31
    let op2 : Word := if s.y.getLsbD 0 = true then operand2 o2 s else 0#32
    EndsWith (exec (.mulscc rd rs1 o2) s) s rd (op1 + op2) { s.psr with icc := sumIcc op1 op2 false }
      ((s.reg rs1).extractLsb' 0 1 ++ s.y.extractLsb' 1 31)

/-- SLL, SRL and SRA complete with each result bit the spec gives, for every count (R220, R221, R222, R223). The count
is the low five bits of r[rs2] or of the instruction (log 38). Bit k of the result is bit k - n (SLL, 0 below n), bit
k + n (SRL, 0 above 31) or bit min(k + n, 31) (SRA); icc and everything else is unchanged. -/
def Obligations.ShiftResults : Prop :=
  ∀ (s : State) (rd rs1 : Reg) (c : ShiftCount),
    let a := s.reg rs1
    let n := shiftDistance c s
    (∃ v, EndsWith (exec (.sll rd rs1 c) s) s rd v s.psr s.y
      ∧ ∀ k < 32, v.getLsbD k = if n ≤ k then a.getLsbD (k - n) else false)
    ∧ (∃ v, EndsWith (exec (.srl rd rs1 c) s) s rd v s.psr s.y
      ∧ ∀ k < 32, v.getLsbD k = if k + n < 32 then a.getLsbD (k + n) else false)
    ∧ (∃ v, EndsWith (exec (.sra rd rs1 c) s) s rd v s.psr s.y
      ∧ ∀ k < 32, v.getLsbD k = a.getLsbD (min (k + n) 31))

/-- SETHI completes with imm22 in the upper 22 bits; NOP and PFCHECK without program flow control do nothing (R226,
R227, R390, R395). SETHI writes imm22 to bits 31:10 of r[rd] and clears bits 9:0. NOP ends with PC and nPC moved on
and, under program flow control, the checksum reset and the next check disabled. PFCHECK without program flow control
is a SETHI to r[0]. -/
def Obligations.SethiAndNop : Prop :=
  (∀ (s : State) (rd : Reg) (imm22 : BitVec 22),
      EndsWith (exec (.sethi rd imm22) s) s rd (imm22.setWidth 32 <<< 10) s.psr s.y)
  ∧ (∀ s : State, s.cfg.flowEnabled = false → EndsAs (exec .nop s) s.ended)
  ∧ (∀ s : State, s.cfg.flowEnabled = true →
      EndsAs (exec .nop s) { s.ended with pfcSum := 0#32, pfcCheckEnabled := false })
  ∧ ∀ (s : State) (sig : BitVec 16), s.cfg.flowEnabled = false → EndsAs (exec (.pfcheck sig) s) s.ended

/-- PFCHECK under program flow control compares the signature, resets the checksum and enables the next check (R391,
R393, R394). Where checking is disabled or the exclusive or of the halves of the checksum equals the expected
signature, the checksum becomes 0 and checking is enabled; otherwise the program flow error 0x66 is taken with HWERROR
asserted, and the check flag is then clear. That a failed check leaves the checksum is the choice of log 25. -/
def Obligations.ProgramFlowCheck : Prop :=
  ∀ (s : State) (sig : BitVec 16), s.cfg.flowEnabled = true →
    ((s.pfcCheckEnabled = false ∨ s.pfcSum.extractLsb' 16 16 ^^^ s.pfcSum.extractLsb' 0 16 = sig) →
      EndsAs (exec (.pfcheck sig) s) { s.ended with pfcSum := 0#32, pfcCheckEnabled := true })
    ∧ ((s.pfcCheckEnabled = true ∧ s.pfcSum.extractLsb' 16 16 ^^^ s.pfcSum.extractLsb' 0 16 ≠ sig) →
      Traps (.hardware .programFlow) (.pfcheck sig) s
      ∧ ∃ t, exec (.pfcheck sig) s = .next t ∧ t.tt = 0x66#8 ∧ Event.hwerror ∈ t.events ∧ t.pfcCheckEnabled = false
          ∧ t.regs[(regIndex t.psr.cwp 17#5).val] = s.pc)
    ∧ decode (0x011F0000#32 ||| sig.setWidth 32) = .ok (.pfcheck sig)

/-- After SUBcc the integer conditions are the signed and unsigned comparisons of its operands (R193, R200, R230,
R246). Each condition of R246 that names a comparison holds of the icc a SUBcc leaves exactly where the comparison
holds of its operands, for all operands. The condition formulas (log 36) and those of V and C (log 39) are from
outside the source. -/
def Obligations.CompareDecidesBranches : Prop :=
  ∀ (s : State) (rd rs1 : Reg) (o2 : Operand2),
    let a := s.reg rs1
    let b := operand2 o2 s
    ∃ t, exec (.subcc rd rs1 o2) s = .next t
      ∧ testIcc 0b0001#4 t.psr.icc = (a == b) ∧ testIcc 0b1001#4 t.psr.icc = !(a == b)
      ∧ testIcc 0b0011#4 t.psr.icc = a.slt b ∧ testIcc 0b1011#4 t.psr.icc = b.sle a
      ∧ testIcc 0b0010#4 t.psr.icc = a.sle b ∧ testIcc 0b1010#4 t.psr.icc = b.slt a
      ∧ testIcc 0b0101#4 t.psr.icc = a.ult b ∧ testIcc 0b1101#4 t.psr.icc = b.ule a
      ∧ testIcc 0b0100#4 t.psr.icc = a.ule b ∧ testIcc 0b1100#4 t.psr.icc = b.ult a

/-- Which register numbers of which windows are the same register, and r[0] (R20, R22, R23, R24). Two numbers name one
of the 136 registers exactly where both are the same global, both are the same number of one window, or one is in
r[24..31] of a window and the other the corresponding r[8..15] of the window above it, modulo 8; every register has a
name. r[0] reads 0 and a write to it is discarded. -/
def Obligations.WindowsOverlap : Prop :=
  (∀ (w w' : BitVec 3) (i j : Reg), regIndex w i = regIndex w' j ↔
      (i = j ∧ i.toNat < 8)
      ∨ (i = j ∧ w = w')
      ∨ (24 ≤ i.toNat ∧ i.toNat = j.toNat + 16 ∧ w' = w + 1#3)
      ∨ (24 ≤ j.toNat ∧ j.toNat = i.toNat + 16 ∧ w = w' + 1#3))
  ∧ (∀ p : Fin 136, ∃ (w : BitVec 3) (i : Reg), regIndex w i = p)
  ∧ ∀ (s : State) (w : BitVec 3) (v : Word), s.regIn w 0#5 = 0#32 ∧ s.setRegIn w 0#5 v = s

/-- SAVE and RESTORE move to the next or previous window with the sum of the old window, or trap on an invalid one
(R44, R46, R268, R269, R345). With the WIM bit of the new window clear, CWP moves by one modulo 8, the sum of the old
window's registers goes to r[rd] of the new window, icc and everything else is unchanged. With that bit set SAVE
raises window_overflow and RESTORE window_underflow. -/
def Obligations.SaveAndRestore : Prop :=
  ∀ (s : State) (rd rs1 : Reg) (o2 : Operand2),
    (s.wim.getLsbD (s.psr.cwp - 1#3).toNat = false →
      EndsWith (exec (.save rd rs1 o2) s) s rd (s.reg rs1 + operand2 o2 s) { s.psr with cwp := s.psr.cwp - 1#3 } s.y)
    ∧ (s.wim.getLsbD (s.psr.cwp - 1#3).toNat = true → Traps .windowOverflow (.save rd rs1 o2) s)
    ∧ (s.wim.getLsbD (s.psr.cwp + 1#3).toNat = false →
      EndsWith (exec (.restore rd rs1 o2) s) s rd (s.reg rs1 + operand2 o2 s) { s.psr with cwp := s.psr.cwp + 1#3 } s.y)
    ∧ (s.wim.getLsbD (s.psr.cwp + 1#3).toNat = true → Traps .windowUnderflow (.restore rd rs1 o2) s)

/-- After SAVE the ins are the caller's outs; after RESTORE the outs are the callee's ins; RESTORE undoes SAVE (R23,
R25, R268, R269). Register r[24 + k] after a SAVE reads what r[8 + k] read before it, unless it is the destination,
and the other way round for RESTORE; SAVE to r[0] and then RESTORE to r[0] leaves every register and CWP as they were. -/
def Obligations.WindowsPassArguments : Prop :=
  (∀ (s : State) (rd rs1 : Reg) (o2 : Operand2) (k : BitVec 3), s.wim.getLsbD (s.psr.cwp - 1#3).toNat = false →
      rd ≠ 24#5 + k.setWidth 5 →
      ∃ t, exec (.save rd rs1 o2) s = .next t ∧ t.reg (24#5 + k.setWidth 5) = s.reg (8#5 + k.setWidth 5))
  ∧ (∀ (s : State) (rd rs1 : Reg) (o2 : Operand2) (k : BitVec 3), s.wim.getLsbD (s.psr.cwp + 1#3).toNat = false →
      rd ≠ 8#5 + k.setWidth 5 →
      ∃ t, exec (.restore rd rs1 o2) s = .next t ∧ t.reg (8#5 + k.setWidth 5) = s.reg (24#5 + k.setWidth 5))
  ∧ ∀ s : State, s.wim.getLsbD (s.psr.cwp - 1#3).toNat = false → s.wim.getLsbD s.psr.cwp.toNat = false →
      ∃ t u, exec (.save 0#5 0#5 (.reg 0#5)) s = .next t ∧ exec (.restore 0#5 0#5 (.reg 0#5)) t = .next u
        ∧ u.regs = s.regs ∧ u.psr = s.psr

/-- LDSB, LDSH, LDUB, LDUH, LD and LDD complete with the big-endian bytes at their address (R24, R60, R64, R122, R126,
R127, R128, R129, R130, R131, R132). At an aligned address that the memory system answers, in the data space of the
mode, r[rd] takes the sign- or zero-extended byte, halfword or word, LDD the even and odd register of the pair the two
words; rd = 0 discards. Nothing else changes, memory included. -/
def Obligations.IntegerLoads : Prop :=
  ∀ (s : State) (rd rs1 : Reg) (o2 : Operand2), s.undisturbed → s.readable s.dataAsi (effectiveAddress rs1 o2 s) →
    let ea := effectiveAddress rs1 o2 s
    EndsWith (exec (.ldsb rd rs1 o2) s) s rd ((s.byteAt s.dataAsi ea 0).signExtend 32) s.psr s.y
    ∧ EndsWith (exec (.ldub rd rs1 o2) s) s rd ((s.byteAt s.dataAsi ea 0).setWidth 32) s.psr s.y
    ∧ (ea.extractLsb' 0 1 = 0#1 → EndsWith (exec (.ldsh rd rs1 o2) s) s rd
        ((s.byteAt s.dataAsi ea 0 ++ s.byteAt s.dataAsi ea 1).signExtend 32) s.psr s.y)
    ∧ (ea.extractLsb' 0 1 = 0#1 → EndsWith (exec (.lduh rd rs1 o2) s) s rd
        ((s.byteAt s.dataAsi ea 0 ++ s.byteAt s.dataAsi ea 1).setWidth 32) s.psr s.y)
    ∧ (ea.extractLsb' 0 2 = 0#2 → EndsWith (exec (.ld rd rs1 o2) s) s rd (s.wordAt s.dataAsi ea) s.psr s.y)
    ∧ (ea.extractLsb' 0 3 = 0#3 → s.readable s.dataAsi (ea + 4#32) →
        EndsWithPair (exec (.ldd rd rs1 o2) s) s rd (s.wordAt s.dataAsi ea) (s.wordAt s.dataAsi (ea + 4#32)))

/-- STB, STH, ST and STD complete and change exactly the bytes they store (R60, R64, R123, R126, R133, R134, R135,
R136). At an aligned address that the memory system takes a write at, the low byte, the low halfword, the word or the
register pair is stored most significant byte first; every other byte of memory and everything else is unchanged. That
an odd rd of STD is forced even is log 17 (D9). -/
def Obligations.IntegerStores : Prop :=
  ∀ (s : State) (rd rs1 : Reg) (o2 : Operand2), s.undisturbed → s.writable s.dataAsi (effectiveAddress rs1 o2 s) →
    let ea := effectiveAddress rs1 o2 s
    EndsStoring (exec (.stb rd rs1 o2) s) s s.dataAsi ea [(s.reg rd).extractLsb' 0 8]
    ∧ (ea.extractLsb' 0 1 = 0#1 → EndsStoring (exec (.sth rd rs1 o2) s) s s.dataAsi ea
        [(s.reg rd).extractLsb' 8 8, (s.reg rd).extractLsb' 0 8])
    ∧ (ea.extractLsb' 0 2 = 0#2 → EndsStoring (exec (.st rd rs1 o2) s) s s.dataAsi ea (bytesBE (s.reg rd)))
    ∧ (ea.extractLsb' 0 3 = 0#3 → s.writable s.dataAsi (ea + 4#32) → EndsStoring (exec (.std rd rs1 o2) s) s s.dataAsi ea
        (bytesBE (s.reg (rd &&& 30#5)) ++ bytesBE (s.reg (rd ||| 1#5))))

/-- LDSTUB and SWAP complete, exchanging r[rd] with the byte or word at their address under LOCK and LDSTO (R83, R137,
R138). LDSTUB loads the byte zero-extended and stores 0xFF; SWAP loads the word and stores the old r[rd]. Nothing else
changes, and the two transactions of each are at its address and adjacent on the bus, both with LOCK and LDSTO
asserted. -/
def Obligations.IntegerAtomics : Prop :=
  ∀ (s : State) (rd rs1 : Reg) (o2 : Operand2), s.undisturbed → s.writable s.dataAsi (effectiveAddress rs1 o2 s) →
    let ea := effectiveAddress rs1 o2 s
    EndsSwapping (exec (.ldstub rd rs1 o2) s) s rd ((s.byteAt s.dataAsi ea 0).setWidth 32) s.dataAsi ea [0xFF#8]
    ∧ (ea.extractLsb' 0 2 = 0#2 →
        EndsSwapping (exec (.swap rd rs1 o2) s) s rd (s.wordAt s.dataAsi ea) s.dataAsi ea (bytesBE (s.reg rd)))
    ∧ ∀ i : Instr, (i = .ldstub rd rs1 o2 ∨ (i = .swap rd rs1 o2 ∧ ea.extractLsb' 0 2 = 0#2)) →
      ∃ (t : State) (a b : BusCycle), exec i s = .next t ∧ t.events = s.events ++ [.bus a, .bus b]
        ∧ a.kind = .read ∧ b.kind = .write ∧ a.addr = ea ∧ b.addr = ea ∧ a.locked = true ∧ b.locked = true
        ∧ a.atomic = true ∧ b.atomic = true

/-- The alternate-space loads, stores and atomics complete in supervisor mode on the named address space (R72, R139,
R140, R142, R143, R144, R145, R146, R147, R148, R150, R151). LDSBA, LDSHA, LDUBA, LDUHA, LDA, LDDA, STBA, STHA, STA,
STDA, LDSTUBA and SWAPA (R140 to R151): as the ordinary forms, with the address r[rs1] + r[rs2] and the ASI of the
instruction (LDSHA and STDA: R141, R149). That an odd rd of STDA is forced even is log 17 (D9); which storage other
address spaces have is log 18. -/
def Obligations.AlternateSpaceAccesses : Prop :=
  ∀ (s : State) (rd rs1 rs2 : Reg) (asi : Asi), s.psr.s = true → s.undisturbed →
    let ea := alternateAddress rs1 rs2 s
    (s.readable asi ea →
    EndsWith (exec (.ldsba rd rs1 rs2 asi) s) s rd ((s.byteAt asi ea 0).signExtend 32) s.psr s.y
    ∧ EndsWith (exec (.lduba rd rs1 rs2 asi) s) s rd ((s.byteAt asi ea 0).setWidth 32) s.psr s.y
    ∧ (ea.extractLsb' 0 1 = 0#1 → EndsWith (exec (.ldsha rd rs1 rs2 asi) s) s rd
        ((s.byteAt asi ea 0 ++ s.byteAt asi ea 1).signExtend 32) s.psr s.y)
    ∧ (ea.extractLsb' 0 1 = 0#1 → EndsWith (exec (.lduha rd rs1 rs2 asi) s) s rd
        ((s.byteAt asi ea 0 ++ s.byteAt asi ea 1).setWidth 32) s.psr s.y)
    ∧ (ea.extractLsb' 0 2 = 0#2 → EndsWith (exec (.lda rd rs1 rs2 asi) s) s rd (s.wordAt asi ea) s.psr s.y)
    ∧ (ea.extractLsb' 0 3 = 0#3 → s.readable asi (ea + 4#32) →
        EndsWithPair (exec (.ldda rd rs1 rs2 asi) s) s rd (s.wordAt asi ea) (s.wordAt asi (ea + 4#32))))
    ∧ (s.writable asi ea →
    EndsStoring (exec (.stba rd rs1 rs2 asi) s) s asi ea [(s.reg rd).extractLsb' 0 8]
    ∧ (ea.extractLsb' 0 1 = 0#1 → EndsStoring (exec (.stha rd rs1 rs2 asi) s) s asi ea
        [(s.reg rd).extractLsb' 8 8, (s.reg rd).extractLsb' 0 8])
    ∧ (ea.extractLsb' 0 2 = 0#2 → EndsStoring (exec (.sta rd rs1 rs2 asi) s) s asi ea (bytesBE (s.reg rd)))
    ∧ (ea.extractLsb' 0 3 = 0#3 → s.writable asi (ea + 4#32) → EndsStoring (exec (.stda rd rs1 rs2 asi) s) s asi ea
        (bytesBE (s.reg (rd &&& 30#5)) ++ bytesBE (s.reg (rd ||| 1#5))))
    ∧ EndsSwapping (exec (.ldstuba rd rs1 rs2 asi) s) s rd ((s.byteAt asi ea 0).setWidth 32) asi ea [0xFF#8]
    ∧ (ea.extractLsb' 0 2 = 0#2 →
        EndsSwapping (exec (.swapa rd rs1 rs2 asi) s) s rd (s.wordAt asi ea) asi ea (bytesBE (s.reg rd))))

/-- A load, store or atomic at an address not aligned for its size raises mem_address_not_aligned (R67, R68, R161,
R346). For every instruction of the alignment table, with the checks of higher priority passed: at an address with one
of the named bits set the trap is taken and nothing else happens; byte accesses and LDSTUB have no requirement (they
complete at every address in the statements of the loads, stores and atomics). -/
def Obligations.MisalignedAddressesTrap : Prop :=
  (∀ (s : State) (rd rs1 : Reg) (o2 : Operand2),
    let ea := effectiveAddress rs1 o2 s
    (ea.extractLsb' 0 1 ≠ 0#1 → ∀ i ∈ [Instr.ldsh rd rs1 o2, .lduh rd rs1 o2, .sth rd rs1 o2],
        Traps .memAddressNotAligned i s)
    ∧ (ea.extractLsb' 0 2 ≠ 0#2 →
        (∀ i ∈ [Instr.ld rd rs1 o2, .st rd rs1 o2, .swap rd rs1 o2], Traps .memAddressNotAligned i s)
        ∧ (¬ s.fpOff → ∀ i ∈ fpWordForms rd rs1 o2, Traps .memAddressNotAligned i s)
        ∧ (¬ s.cpOff → ∀ i ∈ cpWordForms rd rs1 o2, Traps .memAddressNotAligned i s))
    ∧ (ea.extractLsb' 0 3 ≠ 0#3 →
        (∀ i ∈ [Instr.ldd rd rs1 o2, .std rd rs1 o2], Traps .memAddressNotAligned i s)
        ∧ (¬ s.fpOff → ∀ i ∈ fpDoubleForms rd rs1 o2, Traps .memAddressNotAligned i s)
        ∧ (¬ s.cpOff → ∀ i ∈ cpDoubleForms rd rs1 o2, Traps .memAddressNotAligned i s)
        ∧ (s.psr.s = true → ¬ s.fpOff → Traps .memAddressNotAligned (.stdfq rs1 o2) s)
        ∧ (s.psr.s = true → ¬ s.cpOff → Traps .memAddressNotAligned (.stdcq rs1 o2) s)))
  ∧ (∀ (s : State) (rd rs1 rs2 : Reg) (asi : Asi), s.psr.s = true →
    let ea := alternateAddress rs1 rs2 s
    (ea.extractLsb' 0 1 ≠ 0#1 → ∀ i ∈ [Instr.ldsha rd rs1 rs2 asi, .lduha rd rs1 rs2 asi, .stha rd rs1 rs2 asi],
        Traps .memAddressNotAligned i s)
    ∧ (ea.extractLsb' 0 2 ≠ 0#2 → ∀ i ∈ [Instr.lda rd rs1 rs2 asi, .sta rd rs1 rs2 asi, .swapa rd rs1 rs2 asi],
        Traps .memAddressNotAligned i s)
    ∧ (ea.extractLsb' 0 3 ≠ 0#3 → ∀ i ∈ [Instr.ldda rd rs1 rs2 asi, .stda rd rs1 rs2 asi],
        Traps .memAddressNotAligned i s))
  ∧ ∀ (size : AccessSize) (a : Word), aligned size a =
      match size with
      | .byte => true
      | .half => decide (a.extractLsb' 0 1 = 0#1)
      | .word => decide (a.extractLsb' 0 2 = 0#2)
      | .double => decide (a.extractLsb' 0 3 = 0#3)

/-- Every privileged instruction in user mode raises privileged_instruction (R264, R287, R339). RDPSR, RDWIM, RDTBR,
WRWIM, WRTBR, the twelve alternate-space instructions, STDFQ and STDCQ always; WRPSR where the value it writes names a
window (where not, illegal_instruction has the higher priority). RETT with ET = 0 enters error mode with that cause
(R264, logs 23 and 37). The exclusive or that WRPSR writes is log 35 and its check of CWP log 43 (C5). tt is 3 and
r[17] of the trap window the address of the instruction. -/
def Obligations.PrivilegedInstructionsTrapInUserMode : Prop :=
  ∀ (s : State) (rd rs1 rs2 : Reg) (asi : Asi) (o2 : Operand2), s.psr.s = false →
    (∀ i ∈ [Instr.rdpsr rd, .rdwim rd, .rdtbr rd, .wrwim rs1 o2, .wrtbr rs1 o2, .stdfq rs1 o2, .stdcq rs1 o2]
        ++ alternateForms rd rs1 rs2 asi, Traps .privilegedInstruction i s)
    ∧ ((writeValue rs1 o2 s).toNat % 32 < 8 → Traps .privilegedInstruction (.wrpsr rs1 o2) s)
    ∧ (s.psr.et = false → ∃ t, exec (.rett rs1 o2) s = .next t ∧ t.mode = .error
        ∧ t = raiseAt s.pc s.npc .privilegedInstruction s)
    ∧ ∀ u : State, u = raiseAt s.pc s.npc .privilegedInstruction s →
        u.tt = 3#8 ∧ u.regs[(regIndex u.psr.cwp 17#5).val] = s.pc

/-- A load or store whose first access the memory system refuses raises data_access_exception and changes nothing
(R79, R80, R122, R123, R139, R160, R165, R170, R173, R178, R347). Every load and store, of the ordinary and of the
alternate space, of an r register, of the FPU and of the coprocessor, at an aligned address and with the checks of
higher priority passed, with its first access answered by MEXC: registers and memory are as before but for trap entry,
for the doubleword forms too (that a refused first store leaves memory is D11, log 19; LDD: D13, log 20). Only the
pair of a refused LDDF or LDDC is open (log 20). -/
def Obligations.RefusedAccessTraps : Prop :=
  (∀ (s : State) (rd rs1 : Reg) (o2 : Operand2),
    let ea := effectiveAddress rs1 o2 s
    (s.refuses 0 s.dataAsi ea false →
      (∀ i ∈ [Instr.ldsb rd rs1 o2, .ldub rd rs1 o2], Refused i s)
      ∧ (ea.extractLsb' 0 1 = 0#1 → ∀ i ∈ [Instr.ldsh rd rs1 o2, .lduh rd rs1 o2], Refused i s)
      ∧ (ea.extractLsb' 0 2 = 0#2 → Refused (.ld rd rs1 o2) s
        ∧ (¬ s.fpOff → s.fpu.excPending = false → ∀ i ∈ [Instr.ldf rd rs1 o2, .ldfsr rs1 o2], Refused i s)
        ∧ (¬ s.cpOff → s.cp.excPending = false → ∀ i ∈ [Instr.ldc rd rs1 o2, .ldcsr rs1 o2], Refused i s))
      ∧ (ea.extractLsb' 0 3 = 0#3 → Refused (.ldd rd rs1 o2) s
        ∧ (¬ s.fpOff → s.fpu.excPending = false → RefusedFpPair (.lddf rd rs1 o2) s rd)
        ∧ (¬ s.cpOff → s.cp.excPending = false → RefusedCpPair (.lddc rd rs1 o2) s rd)))
    ∧ (s.refuses 0 s.dataAsi ea true →
      Refused (.stb rd rs1 o2) s
      ∧ (ea.extractLsb' 0 1 = 0#1 → Refused (.sth rd rs1 o2) s)
      ∧ (ea.extractLsb' 0 2 = 0#2 → Refused (.st rd rs1 o2) s
        ∧ (¬ s.fpOff → s.fpu.excPending = false → ∀ i ∈ [Instr.stf rd rs1 o2, .stfsr rs1 o2], Refused i s)
        ∧ (¬ s.cpOff → s.cp.excPending = false → ∀ i ∈ [Instr.stc rd rs1 o2, .stcsr rs1 o2], Refused i s))
      ∧ (ea.extractLsb' 0 3 = 0#3 → Refused (.std rd rs1 o2) s
        ∧ (¬ s.fpOff → s.fpu.excPending = false → Refused (.stdf rd rs1 o2) s)
        ∧ (¬ s.cpOff → s.cp.excPending = false → Refused (.stdc rd rs1 o2) s)
        ∧ (s.psr.s = true → ¬ s.fpOff → s.fpu.queue ≠ [] → Refused (.stdfq rs1 o2) s)
        ∧ (s.psr.s = true → ¬ s.cpOff → s.cp.queue ≠ [] → Refused (.stdcq rs1 o2) s))))
  ∧ ∀ (s : State) (rd rs1 rs2 : Reg) (asi : Asi), s.psr.s = true →
    let ea := alternateAddress rs1 rs2 s
    (s.refuses 0 asi ea false →
      (∀ i ∈ [Instr.ldsba rd rs1 rs2 asi, .lduba rd rs1 rs2 asi], Refused i s)
      ∧ (ea.extractLsb' 0 1 = 0#1 → ∀ i ∈ [Instr.ldsha rd rs1 rs2 asi, .lduha rd rs1 rs2 asi], Refused i s)
      ∧ (ea.extractLsb' 0 2 = 0#2 → Refused (.lda rd rs1 rs2 asi) s)
      ∧ (ea.extractLsb' 0 3 = 0#3 → Refused (.ldda rd rs1 rs2 asi) s))
    ∧ (s.refuses 0 asi ea true →
      Refused (.stba rd rs1 rs2 asi) s
      ∧ (ea.extractLsb' 0 1 = 0#1 → Refused (.stha rd rs1 rs2 asi) s)
      ∧ (ea.extractLsb' 0 2 = 0#2 → Refused (.sta rd rs1 rs2 asi) s)
      ∧ (ea.extractLsb' 0 3 = 0#3 → Refused (.stda rd rs1 rs2 asi) s))

/-- A refused second access: loads and atomics change nothing; stores leave the first word old or new (logs 19, 20)
(R80, R132, R136, R139, R154, R165, R168, R170, R173, R176, R178). LDD and LDDA with their second word refused write
neither register; LDSTUB, SWAP, LDSTUBA and SWAPA with either part refused change neither r[rd] nor memory (D13, log
20); a refused LDDF or LDDC leaves only its pair open (log 20). STD, STDA, STDF, STDC, STDFQ and STDCQ with their
second word refused leave it old and the first word with either its old or its new value (D11, log 19); every other
byte is unchanged, and the entry stays in the queue. STDF and STDC with a ready unit; the order of the words of a
queue entry is log 13, an odd rd log 17. -/
def Obligations.RefusedSecondAccess : Prop :=
  (∀ (s : State) (rd rs1 : Reg) (o2 : Operand2),
    let ea := effectiveAddress rs1 o2 s
    let asi := s.dataAsi
    (ea.extractLsb' 0 3 = 0#3 → s.grants 0 asi ea false → s.refuses 1 asi (ea + 4#32) false →
      Refused (.ldd rd rs1 o2) s
      ∧ (¬ s.fpOff → s.fpu.excPending = false → RefusedFpPair (.lddf rd rs1 o2) s rd)
      ∧ (¬ s.cpOff → s.cp.excPending = false → RefusedCpPair (.lddc rd rs1 o2) s rd))
    ∧ ((s.refuses 0 asi ea false ∨ (s.grants 0 asi ea false ∧ s.refuses 1 asi ea true)) →
      Refused (.ldstub rd rs1 o2) s ∧ (ea.extractLsb' 0 2 = 0#2 → Refused (.swap rd rs1 o2) s))
    ∧ (ea.extractLsb' 0 3 = 0#3 → s.grants 0 asi ea true → s.refuses 1 asi (ea + 4#32) true →
      RefusedStore (.std rd rs1 o2) s asi ea (s.reg (rd &&& 30#5))
      ∧ (s.fpReady → RefusedStore (.stdf rd rs1 o2) s asi ea (s.freg (rd &&& 30#5)))
      ∧ (s.cpReady → RefusedStore (.stdc rd rs1 o2) s asi ea (s.creg (rd &&& 30#5)))
      ∧ (∀ (addr instr : Word) (rest : List (Word × Word)), s.psr.s = true → ¬ s.fpOff →
          s.fpu.queue = (addr, instr) :: rest → RefusedStore (.stdfq rs1 o2) s asi ea addr)
      ∧ ∀ (addr instr : Word) (rest : List (Word × Word)), s.psr.s = true → ¬ s.cpOff →
          s.cp.queue = (addr, instr) :: rest → RefusedStore (.stdcq rs1 o2) s asi ea addr))
  ∧ ∀ (s : State) (rd rs1 rs2 : Reg) (asi : Asi), s.psr.s = true →
    let ea := alternateAddress rs1 rs2 s
    (ea.extractLsb' 0 3 = 0#3 → s.grants 0 asi ea false → s.refuses 1 asi (ea + 4#32) false →
      Refused (.ldda rd rs1 rs2 asi) s)
    ∧ ((s.refuses 0 asi ea false ∨ (s.grants 0 asi ea false ∧ s.refuses 1 asi ea true)) →
      Refused (.ldstuba rd rs1 rs2 asi) s ∧ (ea.extractLsb' 0 2 = 0#2 → Refused (.swapa rd rs1 rs2 asi) s))
    ∧ (ea.extractLsb' 0 3 = 0#3 → s.grants 0 asi ea true → s.refuses 1 asi (ea + 4#32) true →
      RefusedStore (.stda rd rs1 rs2 asi) s asi ea (s.reg (rd &&& 30#5)))

/-- Single loads and stores of r registers and instruction fetches complete at a device, with the data it drives (R73,
R79, R429, R443). At an address of a device region, with the access let through: LDSB, LDUB, LDSH, LDUH and LD
complete with the addressed byte, halfword or word of the word driven on the data lines, a free word where the
environment gives none; STB, STH and ST complete, put out the write and change nothing else; an instruction fetched
there is the word driven. What a device does with an access is the environment's (log 33). -/
def Obligations.DeviceAccesses : Prop :=
  (∀ (s : State) (rd rs1 : Reg) (o2 : Operand2),
    let ea := effectiveAddress rs1 o2 s
    let answer := s.pins.dataAnswers.getD 0 .ready
    regionKind s.platform s.dataAsi ea = .device → BusAnswer.passes answer → s.loadSuspect = false →
    (∃ v : Word, (∀ w, answer = .data w → v = w)
      ∧ EndsWith (exec (.ldub rd rs1 o2) s) s rd ((v >>> (8 * (3 - ea.toNat % 4))) &&& 0xFF#32) s.psr s.y
      ∧ EndsWith (exec (.ldsb rd rs1 o2) s) s rd ((v <<< (8 * (ea.toNat % 4))).sshiftRight 24) s.psr s.y
      ∧ (ea.toNat % 2 = 0 →
        EndsWith (exec (.lduh rd rs1 o2) s) s rd ((v >>> (8 * (2 - ea.toNat % 4))) &&& 0xFFFF#32) s.psr s.y
        ∧ EndsWith (exec (.ldsh rd rs1 o2) s) s rd ((v <<< (8 * (ea.toNat % 4))).sshiftRight 16) s.psr s.y)
      ∧ (ea.toNat % 4 = 0 → EndsWith (exec (.ld rd rs1 o2) s) s rd v s.psr s.y))
    ∧ ∀ i : Instr, (i = .stb rd rs1 o2 ∨ (ea.toNat % 2 = 0 ∧ i = .sth rd rs1 o2) ∨ (ea.toNat % 4 = 0 ∧ i = .st rd rs1 o2)) →
      ∃ (t : State) (c : BusCycle), exec i s = .next t ∧ Agree t s.ended ∧ t.events = s.events ++ [.bus c]
        ∧ c.kind = .write ∧ c.asi = s.dataAsi ∧ c.addr = ea ∧ (i = .st rd rs1 o2 → c.data = some (s.reg rd)))
  ∧ ∀ (s : State) (w : Word), s.running → s.annulNext = false → s.sample.unheld → s.sample.faultless →
    ¬ InterruptRequested s s.sample → regionKind s.platform s.fetchAsi s.pc = .device → s.sample.fetchData = some w →
    step s = runWord exec w s.started

/-- After a word store at N, byte and halfword loads return the big-endian parts of the word (R60, R62). A byte load
at N + i returns byte i of the stored word counted from the most significant, a halfword load at N + 2 i its half i, a
word load at N the word. -/
def Obligations.StoredWordIsReadByBytes : Prop :=
  ∀ (s t : State) (rd rs1 : Reg) (o2 : Operand2), s.undisturbed → s.writable s.dataAsi (effectiveAddress rs1 o2 s) →
    exec (.st rd rs1 o2) s = .next t → (effectiveAddress rs1 o2 s).extractLsb' 0 2 = 0#2 →
    ∀ (rd' rs1' : Reg) (o2' : Operand2), t.readable t.dataAsi (effectiveAddress rs1' o2' t) →
      let n := effectiveAddress rs1 o2 s
      let v := s.reg rd
      (∀ i : Fin 4, effectiveAddress rs1' o2' t = n + BitVec.ofNat 32 i →
        EndsWith (exec (.ldub rd' rs1' o2') t) t rd' ((v >>> (8 * (3 - i.val))) &&& 0xFF#32) t.psr t.y)
      ∧ (∀ i : Fin 2, effectiveAddress rs1' o2' t = n + BitVec.ofNat 32 (2 * i) →
        EndsWith (exec (.lduh rd' rs1' o2') t) t rd' ((v >>> (16 * (1 - i.val))) &&& 0xFFFF#32) t.psr t.y)
      ∧ (effectiveAddress rs1' o2' t = n → EndsWith (exec (.ld rd' rs1' o2') t) t rd' v t.psr t.y)

/-- Each of the sixteen Bicc completes: target, delay instruction and annulment by its condition on icc (R242, R244,
R245, R246, R247). BN, BE, BLE, BL, BLEU, BCS, BNEG, BVS, BA, BNE, BG, BGE, BGU, BCC, BPOS and BVC, not in the delay
slot of a conditional branch: PC takes nPC, nPC the target PC + 4 disp22 where the condition holds and nPC + 4 where
not, the delay instruction is annulled as the annul table says; nothing else changes. The base of the target is the
branch itself (C1, log 40); the closed forms of the conditions are marked by the spec as derived (log 36). -/
def Obligations.IntegerBranches : Prop :=
  Branches .bn false (fun _ => True) (fun _ => false)
  ∧ Branches .be false (fun _ => True) (fun s => s.psr.icc.z)
  ∧ Branches .ble false (fun _ => True) (fun s => s.psr.icc.z || (s.psr.icc.n ^^ s.psr.icc.v))
  ∧ Branches .bl false (fun _ => True) (fun s => s.psr.icc.n ^^ s.psr.icc.v)
  ∧ Branches .bleu false (fun _ => True) (fun s => s.psr.icc.c || s.psr.icc.z)
  ∧ Branches .bcs false (fun _ => True) (fun s => s.psr.icc.c)
  ∧ Branches .bneg false (fun _ => True) (fun s => s.psr.icc.n)
  ∧ Branches .bvs false (fun _ => True) (fun s => s.psr.icc.v)
  ∧ Branches .ba true (fun _ => True) (fun _ => true)
  ∧ Branches .bne false (fun _ => True) (fun s => !s.psr.icc.z)
  ∧ Branches .bg false (fun _ => True) (fun s => !(s.psr.icc.z || (s.psr.icc.n ^^ s.psr.icc.v)))
  ∧ Branches .bge false (fun _ => True) (fun s => !(s.psr.icc.n ^^ s.psr.icc.v))
  ∧ Branches .bgu false (fun _ => True) (fun s => !(s.psr.icc.c || s.psr.icc.z))
  ∧ Branches .bcc false (fun _ => True) (fun s => !s.psr.icc.c)
  ∧ Branches .bpos false (fun _ => True) (fun s => !s.psr.icc.n)
  ∧ Branches .bvc false (fun _ => True) (fun s => !s.psr.icc.v)

/-- Each of the sixteen FBfcc completes on the condition codes of an FPU with no exception pending (R242, R245, R250,
R251). FBN to FBO with the FPU enabled and present, no exception pending and good control parity, not in the delay
slot of a conditional branch: as Bicc, with the relations E, L, G, U of the condition table, coded 0 to 3 (from
outside the source, log 36). The base of the target is the branch itself (C1, log 40). In exception mode too the
branch completes on the condition codes: log 12. -/
def Obligations.FloatingPointBranches : Prop :=
  let ok : State → Prop := fun s => ¬ s.fpOff ∧ s.fpu.excPending = false ∧ (s.cfg.parityInEnabled && s.pins.fipar) = false
  Branches .fbn false ok (fun _ => false)
  ∧ Branches .fbne false ok (fun s => decide (s.fpu.fcc ∈ [1#2, 2#2, 3#2]))
  ∧ Branches .fblg false ok (fun s => decide (s.fpu.fcc ∈ [1#2, 2#2]))
  ∧ Branches .fbul false ok (fun s => decide (s.fpu.fcc ∈ [1#2, 3#2]))
  ∧ Branches .fbl false ok (fun s => decide (s.fpu.fcc ∈ [1#2]))
  ∧ Branches .fbug false ok (fun s => decide (s.fpu.fcc ∈ [2#2, 3#2]))
  ∧ Branches .fbg false ok (fun s => decide (s.fpu.fcc ∈ [2#2]))
  ∧ Branches .fbu false ok (fun s => decide (s.fpu.fcc ∈ [3#2]))
  ∧ Branches .fba true ok (fun s => decide (s.fpu.fcc ∈ [0#2, 1#2, 2#2, 3#2]))
  ∧ Branches .fbe false ok (fun s => decide (s.fpu.fcc ∈ [0#2]))
  ∧ Branches .fbue false ok (fun s => decide (s.fpu.fcc ∈ [0#2, 3#2]))
  ∧ Branches .fbge false ok (fun s => decide (s.fpu.fcc ∈ [0#2, 2#2]))
  ∧ Branches .fbuge false ok (fun s => decide (s.fpu.fcc ∈ [0#2, 2#2, 3#2]))
  ∧ Branches .fble false ok (fun s => decide (s.fpu.fcc ∈ [0#2, 1#2]))
  ∧ Branches .fbule false ok (fun s => decide (s.fpu.fcc ∈ [0#2, 1#2, 3#2]))
  ∧ Branches .fbo false ok (fun s => decide (s.fpu.fcc ∈ [0#2, 1#2, 2#2]))

/-- Each of the sixteen CBccc completes on the condition codes of a coprocessor with no exception pending (R242, R245,
R253, R254, R255). CBN to CB012 with the coprocessor enabled and present, no exception pending, not in the delay slot
of a conditional branch and not too close to a coprocessor compare: as Bicc, on the value 0 to 3 of the codes. Right
after a compare the branch still completes, with a free decision (log 22). The base of the target is the branch itself
(C1, log 40). In exception mode too the branch completes: log 12. -/
def Obligations.CoprocessorBranches : Prop :=
  let ok : State → Prop := fun s => ¬ s.cpOff ∧ s.cp.excPending = false ∧ s.cpCompare = false
  Branches .cbn false ok (fun _ => false)
  ∧ Branches .cb123 false ok (fun s => decide (s.cp.ccc ∈ [1#2, 2#2, 3#2]))
  ∧ Branches .cb12 false ok (fun s => decide (s.cp.ccc ∈ [1#2, 2#2]))
  ∧ Branches .cb13 false ok (fun s => decide (s.cp.ccc ∈ [1#2, 3#2]))
  ∧ Branches .cb1 false ok (fun s => decide (s.cp.ccc ∈ [1#2]))
  ∧ Branches .cb23 false ok (fun s => decide (s.cp.ccc ∈ [2#2, 3#2]))
  ∧ Branches .cb2 false ok (fun s => decide (s.cp.ccc ∈ [2#2]))
  ∧ Branches .cb3 false ok (fun s => decide (s.cp.ccc ∈ [3#2]))
  ∧ Branches .cba true ok (fun s => decide (s.cp.ccc ∈ [0#2, 1#2, 2#2, 3#2]))
  ∧ Branches .cb0 false ok (fun s => decide (s.cp.ccc ∈ [0#2]))
  ∧ Branches .cb03 false ok (fun s => decide (s.cp.ccc ∈ [0#2, 3#2]))
  ∧ Branches .cb02 false ok (fun s => decide (s.cp.ccc ∈ [0#2, 2#2]))
  ∧ Branches .cb023 false ok (fun s => decide (s.cp.ccc ∈ [0#2, 2#2, 3#2]))
  ∧ Branches .cb01 false ok (fun s => decide (s.cp.ccc ∈ [0#2, 1#2]))
  ∧ Branches .cb013 false ok (fun s => decide (s.cp.ccc ∈ [0#2, 1#2, 3#2]))
  ∧ Branches .cb012 false ok (fun s => decide (s.cp.ccc ∈ [0#2, 1#2, 2#2]))
  ∧ ∀ (s : State) (a : Bool) (d : BitVec 22), s.condDelay = false → ¬ s.cpOff → s.cp.excPending = false →
      s.cpCompare = true → ∀ i ∈ cbcccForms a d, ∃ t, exec i s = .next t
        ∧ t.npc ∈ [s.pc + (d ++ 0#2).signExtend 32, s.npc + 4#32]
        ∧ Agree t { s.ended with npc := t.npc, annulNext := t.annulNext, condDelay := t.condDelay, cpCompare := true }

/-- CALL and JMPL complete: the link register takes PC, and nPC the target (R25, R240, R244, R259, R261, R346). CALL
writes PC to r[15] and goes to PC + 4 disp30; JMPL writes PC to r[rd] and goes to the sum of its operands, read before
the write, or raises mem_address_not_aligned where that is not word aligned. The delay instruction at the old nPC
follows; icc and everything else is unchanged. The base of the CALL target is its own address (C1, log 40). -/
def Obligations.CallAndJmpl : Prop :=
  (∀ (s : State) (d : BitVec 30), s.condDelay = false → ∃ t, exec (.call d) s = .next t
      ∧ WritesReg t.regs s s.psr.cwp 15#5 s.pc ∧ Agree t { s.ended with npc := s.pc + (d ++ 0#2), regs := t.regs })
  ∧ (∀ (s : State) (rd rs1 : Reg) (o2 : Operand2), s.condDelay = false → WordAligned (s.reg rs1 + operand2 o2 s) →
      ∃ t, exec (.jmpl rd rs1 o2) s = .next t
      ∧ WritesReg t.regs s s.psr.cwp rd s.pc ∧ Agree t { s.ended with npc := s.reg rs1 + operand2 o2 s, regs := t.regs })
  ∧ ∀ (s : State) (rd rs1 : Reg) (o2 : Operand2), ¬ WordAligned (s.reg rs1 + operand2 o2 s) →
      Traps .memAddressNotAligned (.jmpl rd rs1 o2) s

/-- A control transfer in the delay slot of a conditional branch does its other effects and goes to some aligned
address (R242, R245, R246, R251, R254, R255, R257). CALL, JMPL, RETT and each of the Bicc, FBfcc and CBccc as the
second instruction of the unsupported couple: nPC is a free word-aligned address (log 21, D15) and everything else is
as outside the couple, the annulment by the condition included (formulas and codes: log 36; exception mode: log 12; a
CBccc right after a compare: a free decision, log 22). -/
def Obligations.TransferInBranchDelaySlot : Prop :=
  (∀ s : State, s.condDelay = true →
    (∀ d : BitVec 30, ∃ t, exec (.call d) s = .next t ∧ WordAligned t.npc
      ∧ WritesReg t.regs s s.psr.cwp 15#5 s.pc ∧ Agree t { s.ended with npc := t.npc, regs := t.regs })
    ∧ (∀ (rd rs1 : Reg) (o2 : Operand2), WordAligned (s.reg rs1 + operand2 o2 s) → ∃ t, exec (.jmpl rd rs1 o2) s = .next t
      ∧ WordAligned t.npc ∧ WritesReg t.regs s s.psr.cwp rd s.pc ∧ Agree t { s.ended with npc := t.npc, regs := t.regs })
    ∧ (∀ (rs1 : Reg) (o2 : Operand2), s.psr.et = false → s.psr.s = true →
      s.wim.getLsbD (s.psr.cwp + 1#3).toNat = false → WordAligned (s.reg rs1 + operand2 o2 s) →
      ∃ t, exec (.rett rs1 o2) s = .next t ∧ WordAligned t.npc
      ∧ Agree t { s.ended with
          npc := t.npc, psr := { s.psr with et := true, s := s.psr.ps, cwp := s.psr.cwp + 1#3 }
          pfcCheckEnabled := if s.cfg.flowEnabled then false else s.pfcCheckEnabled })
    ∧ ∀ (a : Bool) (d : BitVec 22), ¬ s.cpOff → s.cp.excPending = false → s.cpCompare = true → ∀ i ∈ cbcccForms a d,
      ∃ t, exec i s = .next t ∧ WordAligned t.npc
        ∧ Agree t { s.ended with npc := t.npc, annulNext := t.annulNext, condDelay := t.condDelay, cpCompare := true })
  ∧ BranchesInSlot .bn false (fun _ => True) (fun _ => false)
  ∧ BranchesInSlot .be false (fun _ => True) (fun s => s.psr.icc.z)
  ∧ BranchesInSlot .ble false (fun _ => True) (fun s => s.psr.icc.z || (s.psr.icc.n ^^ s.psr.icc.v))
  ∧ BranchesInSlot .bl false (fun _ => True) (fun s => s.psr.icc.n ^^ s.psr.icc.v)
  ∧ BranchesInSlot .bleu false (fun _ => True) (fun s => s.psr.icc.c || s.psr.icc.z)
  ∧ BranchesInSlot .bcs false (fun _ => True) (fun s => s.psr.icc.c)
  ∧ BranchesInSlot .bneg false (fun _ => True) (fun s => s.psr.icc.n)
  ∧ BranchesInSlot .bvs false (fun _ => True) (fun s => s.psr.icc.v)
  ∧ BranchesInSlot .ba true (fun _ => True) (fun _ => true)
  ∧ BranchesInSlot .bne false (fun _ => True) (fun s => !s.psr.icc.z)
  ∧ BranchesInSlot .bg false (fun _ => True) (fun s => !(s.psr.icc.z || (s.psr.icc.n ^^ s.psr.icc.v)))
  ∧ BranchesInSlot .bge false (fun _ => True) (fun s => !(s.psr.icc.n ^^ s.psr.icc.v))
  ∧ BranchesInSlot .bgu false (fun _ => True) (fun s => !(s.psr.icc.c || s.psr.icc.z))
  ∧ BranchesInSlot .bcc false (fun _ => True) (fun s => !s.psr.icc.c)
  ∧ BranchesInSlot .bpos false (fun _ => True) (fun s => !s.psr.icc.n)
  ∧ BranchesInSlot .bvc false (fun _ => True) (fun s => !s.psr.icc.v)
  ∧ BranchesInSlot .fbn false
      (fun s => ¬ s.fpOff ∧ s.fpu.excPending = false ∧ (s.cfg.parityInEnabled && s.pins.fipar) = false)
      (fun _ => false)
  ∧ BranchesInSlot .fbne false
      (fun s => ¬ s.fpOff ∧ s.fpu.excPending = false ∧ (s.cfg.parityInEnabled && s.pins.fipar) = false)
      (fun s => decide (s.fpu.fcc ∈ [1#2, 2#2, 3#2]))
  ∧ BranchesInSlot .fblg false
      (fun s => ¬ s.fpOff ∧ s.fpu.excPending = false ∧ (s.cfg.parityInEnabled && s.pins.fipar) = false)
      (fun s => decide (s.fpu.fcc ∈ [1#2, 2#2]))
  ∧ BranchesInSlot .fbul false
      (fun s => ¬ s.fpOff ∧ s.fpu.excPending = false ∧ (s.cfg.parityInEnabled && s.pins.fipar) = false)
      (fun s => decide (s.fpu.fcc ∈ [1#2, 3#2]))
  ∧ BranchesInSlot .fbl false
      (fun s => ¬ s.fpOff ∧ s.fpu.excPending = false ∧ (s.cfg.parityInEnabled && s.pins.fipar) = false)
      (fun s => decide (s.fpu.fcc ∈ [1#2]))
  ∧ BranchesInSlot .fbug false
      (fun s => ¬ s.fpOff ∧ s.fpu.excPending = false ∧ (s.cfg.parityInEnabled && s.pins.fipar) = false)
      (fun s => decide (s.fpu.fcc ∈ [2#2, 3#2]))
  ∧ BranchesInSlot .fbg false
      (fun s => ¬ s.fpOff ∧ s.fpu.excPending = false ∧ (s.cfg.parityInEnabled && s.pins.fipar) = false)
      (fun s => decide (s.fpu.fcc ∈ [2#2]))
  ∧ BranchesInSlot .fbu false
      (fun s => ¬ s.fpOff ∧ s.fpu.excPending = false ∧ (s.cfg.parityInEnabled && s.pins.fipar) = false)
      (fun s => decide (s.fpu.fcc ∈ [3#2]))
  ∧ BranchesInSlot .fba true
      (fun s => ¬ s.fpOff ∧ s.fpu.excPending = false ∧ (s.cfg.parityInEnabled && s.pins.fipar) = false)
      (fun s => decide (s.fpu.fcc ∈ [0#2, 1#2, 2#2, 3#2]))
  ∧ BranchesInSlot .fbe false
      (fun s => ¬ s.fpOff ∧ s.fpu.excPending = false ∧ (s.cfg.parityInEnabled && s.pins.fipar) = false)
      (fun s => decide (s.fpu.fcc ∈ [0#2]))
  ∧ BranchesInSlot .fbue false
      (fun s => ¬ s.fpOff ∧ s.fpu.excPending = false ∧ (s.cfg.parityInEnabled && s.pins.fipar) = false)
      (fun s => decide (s.fpu.fcc ∈ [0#2, 3#2]))
  ∧ BranchesInSlot .fbge false
      (fun s => ¬ s.fpOff ∧ s.fpu.excPending = false ∧ (s.cfg.parityInEnabled && s.pins.fipar) = false)
      (fun s => decide (s.fpu.fcc ∈ [0#2, 2#2]))
  ∧ BranchesInSlot .fbuge false
      (fun s => ¬ s.fpOff ∧ s.fpu.excPending = false ∧ (s.cfg.parityInEnabled && s.pins.fipar) = false)
      (fun s => decide (s.fpu.fcc ∈ [0#2, 2#2, 3#2]))
  ∧ BranchesInSlot .fble false
      (fun s => ¬ s.fpOff ∧ s.fpu.excPending = false ∧ (s.cfg.parityInEnabled && s.pins.fipar) = false)
      (fun s => decide (s.fpu.fcc ∈ [0#2, 1#2]))
  ∧ BranchesInSlot .fbule false
      (fun s => ¬ s.fpOff ∧ s.fpu.excPending = false ∧ (s.cfg.parityInEnabled && s.pins.fipar) = false)
      (fun s => decide (s.fpu.fcc ∈ [0#2, 1#2, 3#2]))
  ∧ BranchesInSlot .fbo false
      (fun s => ¬ s.fpOff ∧ s.fpu.excPending = false ∧ (s.cfg.parityInEnabled && s.pins.fipar) = false)
      (fun s => decide (s.fpu.fcc ∈ [0#2, 1#2, 2#2]))
  ∧ BranchesInSlot .cbn false
      (fun s => ¬ s.cpOff ∧ s.cp.excPending = false ∧ s.cpCompare = false)
      (fun _ => false)
  ∧ BranchesInSlot .cb123 false
      (fun s => ¬ s.cpOff ∧ s.cp.excPending = false ∧ s.cpCompare = false)
      (fun s => decide (s.cp.ccc ∈ [1#2, 2#2, 3#2]))
  ∧ BranchesInSlot .cb12 false
      (fun s => ¬ s.cpOff ∧ s.cp.excPending = false ∧ s.cpCompare = false)
      (fun s => decide (s.cp.ccc ∈ [1#2, 2#2]))
  ∧ BranchesInSlot .cb13 false
      (fun s => ¬ s.cpOff ∧ s.cp.excPending = false ∧ s.cpCompare = false)
      (fun s => decide (s.cp.ccc ∈ [1#2, 3#2]))
  ∧ BranchesInSlot .cb1 false
      (fun s => ¬ s.cpOff ∧ s.cp.excPending = false ∧ s.cpCompare = false)
      (fun s => decide (s.cp.ccc ∈ [1#2]))
  ∧ BranchesInSlot .cb23 false
      (fun s => ¬ s.cpOff ∧ s.cp.excPending = false ∧ s.cpCompare = false)
      (fun s => decide (s.cp.ccc ∈ [2#2, 3#2]))
  ∧ BranchesInSlot .cb2 false
      (fun s => ¬ s.cpOff ∧ s.cp.excPending = false ∧ s.cpCompare = false)
      (fun s => decide (s.cp.ccc ∈ [2#2]))
  ∧ BranchesInSlot .cb3 false
      (fun s => ¬ s.cpOff ∧ s.cp.excPending = false ∧ s.cpCompare = false)
      (fun s => decide (s.cp.ccc ∈ [3#2]))
  ∧ BranchesInSlot .cba true
      (fun s => ¬ s.cpOff ∧ s.cp.excPending = false ∧ s.cpCompare = false)
      (fun s => decide (s.cp.ccc ∈ [0#2, 1#2, 2#2, 3#2]))
  ∧ BranchesInSlot .cb0 false
      (fun s => ¬ s.cpOff ∧ s.cp.excPending = false ∧ s.cpCompare = false)
      (fun s => decide (s.cp.ccc ∈ [0#2]))
  ∧ BranchesInSlot .cb03 false
      (fun s => ¬ s.cpOff ∧ s.cp.excPending = false ∧ s.cpCompare = false)
      (fun s => decide (s.cp.ccc ∈ [0#2, 3#2]))
  ∧ BranchesInSlot .cb02 false
      (fun s => ¬ s.cpOff ∧ s.cp.excPending = false ∧ s.cpCompare = false)
      (fun s => decide (s.cp.ccc ∈ [0#2, 2#2]))
  ∧ BranchesInSlot .cb023 false
      (fun s => ¬ s.cpOff ∧ s.cp.excPending = false ∧ s.cpCompare = false)
      (fun s => decide (s.cp.ccc ∈ [0#2, 2#2, 3#2]))
  ∧ BranchesInSlot .cb01 false
      (fun s => ¬ s.cpOff ∧ s.cp.excPending = false ∧ s.cpCompare = false)
      (fun s => decide (s.cp.ccc ∈ [0#2, 1#2]))
  ∧ BranchesInSlot .cb013 false
      (fun s => ¬ s.cpOff ∧ s.cp.excPending = false ∧ s.cpCompare = false)
      (fun s => decide (s.cp.ccc ∈ [0#2, 1#2, 3#2]))
  ∧ BranchesInSlot .cb012 false
      (fun s => ¬ s.cpOff ∧ s.cp.excPending = false ∧ s.cpCompare = false)
      (fun s => decide (s.cp.ccc ∈ [0#2, 1#2, 2#2]))

/-- RETT returns where its checks pass, raises illegal_instruction with ET = 1, and enters error mode where a check
fails (R263, R264, R355, R394). With ET = 0, S = 1, the window above valid and an aligned target: ET = 1, S = PS, CWP
+ 1, PC = nPC, nPC = target, the next program flow check disabled, nothing else. With ET = 1 illegal_instruction
whatever S is. With ET = 0 the first failing check of privilege, window and alignment enters error mode with its trap
type (3, 6 or 7; log 37). -/
def Obligations.ReturnFromTrap : Prop :=
  ∀ (s : State) (rs1 : Reg) (o2 : Operand2),
    let ea := s.reg rs1 + operand2 o2 s
    let invalid := s.wim.getLsbD (s.psr.cwp + 1#3).toNat
    (s.psr.et = false → s.psr.s = true → invalid = false → WordAligned ea → s.condDelay = false →
      EndsAs (exec (.rett rs1 o2) s)
        { s.ended with
          npc := ea, psr := { s.psr with et := true, s := s.psr.ps, cwp := s.psr.cwp + 1#3 }
          pfcCheckEnabled := if s.cfg.flowEnabled then false else s.pfcCheckEnabled })
    ∧ (s.psr.et = true → Traps .illegalInstruction (.rett rs1 o2) s)
    ∧ (s.psr.et = false → s.psr.s = false → ∃ t, exec (.rett rs1 o2) s = .next t ∧ t.mode = .error ∧ t.tt = 3#8)
    ∧ (s.psr.et = false → s.psr.s = true → invalid = true →
        ∃ t, exec (.rett rs1 o2) s = .next t ∧ t.mode = .error ∧ t.tt = 6#8)
    ∧ (s.psr.et = false → s.psr.s = true → invalid = false → ¬ WordAligned ea →
        ∃ t, exec (.rett rs1 o2) s = .next t ∧ t.mode = .error ∧ t.tt = 7#8)

/-- Each of the sixteen Ticc traps to 128 plus the low seven bits of its operand sum, or does nothing (R246, R266,
R349). TN, TE, TLE, TL, TLEU, TCS, TNEG, TVS, TA, TNE, TG, TGE, TGU, TCC, TPOS and TVC: where the condition holds of
icc, trap_instruction with the PC and nPC of the Ticc saved; else PC and nPC move on and nothing else changes. The
closed forms of the conditions are marked by the spec as derived (log 36). -/
def Obligations.ConditionalTraps : Prop :=
  TrapsOn .tn (fun _ => false)
  ∧ TrapsOn .te (fun f => f.z)
  ∧ TrapsOn .tle (fun f => f.z || (f.n ^^ f.v))
  ∧ TrapsOn .tl (fun f => f.n ^^ f.v)
  ∧ TrapsOn .tleu (fun f => f.c || f.z)
  ∧ TrapsOn .tcs (fun f => f.c)
  ∧ TrapsOn .tneg (fun f => f.n)
  ∧ TrapsOn .tvs (fun f => f.v)
  ∧ TrapsOn .ta (fun _ => true)
  ∧ TrapsOn .tne (fun f => !f.z)
  ∧ TrapsOn .tg (fun f => !(f.z || (f.n ^^ f.v)))
  ∧ TrapsOn .tge (fun f => !(f.n ^^ f.v))
  ∧ TrapsOn .tgu (fun f => !(f.c || f.z))
  ∧ TrapsOn .tcc (fun f => !f.c)
  ∧ TrapsOn .tpos (fun f => !f.n)
  ∧ TrapsOn .tvc (fun f => !f.v)

/-- RDY, and in supervisor mode RDPSR, RDWIM and RDTBR, complete with the register in r[rd] (R34, R35, R38, R282,
R283, R284, R285). The PSR reads with impl = ver = 1, icc in 23:20, 0 in 19:14, EC, EF, PIL, S, PS, ET and CWP at
their places (that 19:14 read as 0 is D3, log 6); WIM reads zero-extended; TBR reads as TBA, tt and four zeros.
Nothing else changes. -/
def Obligations.ReadControlRegisters : Prop :=
  (∀ (s : State) (rd : Reg), EndsWith (exec (.rdy rd) s) s rd s.y s.psr s.y)
  ∧ ∀ (s : State) (rd : Reg), s.psr.s = true →
      EndsWith (exec (.rdwim rd) s) s rd (s.wim.setWidth 32) s.psr s.y
      ∧ EndsWith (exec (.rdtbr rd) s) s rd (s.tba ++ s.tt ++ 0#4) s.psr s.y
      ∧ ∃ v : Word, EndsWith (exec (.rdpsr rd) s) s rd v s.psr s.y
          ∧ v.extractLsb' 28 4 = 1#4 ∧ v.extractLsb' 24 4 = 1#4 ∧ v.getLsbD 23 = s.psr.icc.n ∧ v.getLsbD 22 = s.psr.icc.z
          ∧ v.getLsbD 21 = s.psr.icc.v ∧ v.getLsbD 20 = s.psr.icc.c ∧ v.extractLsb' 14 6 = 0#6
          ∧ v.getLsbD 13 = s.psr.ec ∧ v.getLsbD 12 = s.psr.ef ∧ v.extractLsb' 8 4 = s.psr.pil ∧ v.getLsbD 7 = true
          ∧ v.getLsbD 6 = s.psr.ps ∧ v.getLsbD 5 = s.psr.et ∧ v.extractLsb' 0 5 = s.psr.cwp.setWidth 5

/-- WRY, and in supervisor mode WRPSR, WRWIM and WRTBR, complete with the exclusive or of the operands; a bad CWP
traps (R281, R286, R287, R289, R290, R291). WRWIM takes bits 7:0, WRTBR bits 31:12 (tt stays), WRPSR icc, EC, EF, PIL,
S, PS, ET and CWP from their places; bits 19:14 of the value are ignored (log 6). A WRPSR value with bits 4:0 of 8 or
more raises illegal_instruction and writes nothing (C5, log 43). The exclusive or is from outside the source (log 35). -/
def Obligations.WriteControlRegisters : Prop :=
  ∀ (s : State) (rs1 : Reg) (o2 : Operand2),
    let v := s.reg rs1 ^^^ operand2 o2 s
    EndsAs (exec (.wry rs1 o2) s) { s.ended with y := v }
    ∧ (v.toNat % 32 ≥ 8 → Traps .illegalInstruction (.wrpsr rs1 o2) s)
    ∧ (s.psr.s = true →
        EndsAs (exec (.wrwim rs1 o2) s) { s.ended with wim := v.extractLsb' 0 8 }
        ∧ EndsAs (exec (.wrtbr rs1 o2) s) { s.ended with tba := v.extractLsb' 12 20 }
        ∧ (v.toNat % 32 < 8 → EndsAs (exec (.wrpsr rs1 o2) s)
            { s.ended with psr :=
              { icc := { n := v.getLsbD 23, z := v.getLsbD 22, v := v.getLsbD 21, c := v.getLsbD 20 }
                ec := v.getLsbD 13, ef := v.getLsbD 12, pil := v.extractLsb' 8 4, s := v.getLsbD 7, ps := v.getLsbD 6
                et := v.getLsbD 5, cwp := v.extractLsb' 0 3 } }))

/-- A value written by WRPSR reads back through RDPSR with impl, ver and the reserved bits at their constants (R34,
R35, R38, R282, R286). If the value keeps S = 1, the RDPSR that follows gives the value with bits 31:24 equal to 0x11
and bits 19:14 equal to 0. That reserved bits of the value are ignored is log 6; the value is the exclusive or of the
operands by log 35, and the very next RDPSR sees it by D16 (log 15). -/
def Obligations.WrittenPsrReadsBack : Prop :=
  ∀ (s t : State) (rs1 : Reg) (o2 : Operand2) (rd : Reg), s.psr.s = true →
    exec (.wrpsr rs1 o2) s = .next t →
    let v := s.reg rs1 ^^^ operand2 o2 s
    v.getLsbD 7 = true → v.toNat % 32 < 8 →
    EndsWith (exec (.rdpsr rd) t) t rd (0x11000000#32 ||| (v &&& 0x00F03FFF#32)) t.psr t.y

/-- UNIMP raises illegal_instruction; IFLUSH is a NOP with IFT high and raises illegal_instruction with IFT low (R320,
R322). UNIMP traps in every state whatever its constant, and its word is that of every word with op = 00 and op2 =
000; the words with op2 = 001, 011 and 101 trap likewise. IFLUSH with IFT high completes and changes nothing but PC
and nPC, whatever its address; with IFT low it traps. -/
def Obligations.UnimpAndIflush : Prop :=
  (∀ (s : State) (c : BitVec 22), Traps .illegalInstruction (.unimp c) s)
  ∧ (∀ w : Word, w.extractLsb' 30 2 = 0#2 →
      (w.extractLsb' 22 3 = 0#3 → decode w = .ok (.unimp (w.extractLsb' 0 22)))
      ∧ (w.extractLsb' 22 3 ∈ [1#3, 3#3, 5#3] → ∀ s : State,
          runWord exec w s = .next (raiseAt s.pc s.npc .illegalInstruction { s with ir := w })))
  ∧ (∀ w : Word, w.extractLsb' 30 2 = 2#2 → w.extractLsb' 19 6 = 0x3B#6 → ∃ rs1 o2, decode w = .ok (.iflush rs1 o2))
  ∧ (∀ (s : State) (rs1 : Reg) (o2 : Operand2), s.cfg.ift = true → EndsAs (exec (.iflush rs1 o2) s) s.ended)
  ∧ ∀ (s : State) (rs1 : Reg) (o2 : Operand2), s.cfg.ift = false → Traps .illegalInstruction (.iflush rs1 o2) s

/-- LDF, LDDF, LDFSR, STF, STDF, STFSR and STDFQ complete with the FPU enabled, at an aligned address (R49, R55, R160,
R162, R164, R165, R166, R167, R168, R169, R170, R433). With a ready FPU loads write f[rd], the even and odd register
of the pair, or the FSR; stores write f[rd], the pair, or the FSR, whose condition code bits are FCC; no r register,
icc or other f register changes. LDFSR writes the condition codes; what the FPU makes of the other bits and where the
two bits stand is open (log 11). The even forcing of an odd rd is log 17 (D9). STDFQ in supervisor mode stores the
address and then the word of the front queue entry (order of the words: log 13), removes it, and with the last entry
ends exception mode; with an empty queue it is refused (I20, log 13). In exception mode the others complete too, with
whatever the FPU makes of them; it stays in that mode with its queue entries (log 12). -/
def Obligations.FpLoadsAndStores : Prop :=
  ∀ (s : State) (rd rs1 : Reg) (o2 : Operand2), s.undisturbed →
    let ea := effectiveAddress rs1 o2 s
    let asi := s.dataAsi
    codeOf Config.fccPlace (fsrWord s.fpu) = s.fpu.fcc
    ∧ (s.fpReady → s.readable asi ea → ea.extractLsb' 0 2 = 0#2 →
      (∃ t, exec (.ldf rd rs1 o2) s = .next t ∧ WritesF t s [rd] (fun _ => s.wordAt asi ea)
        ∧ Agree t { s.ended with fpu := { s.fpu with f := t.fpu.f } })
      ∧ EndsAs (exec (.ldfsr rs1 o2) s)
          { s.ended with fpu := { s.fpu with
              fsr := Config.fsrLoaded (fsrWord s.fpu) (s.wordAt asi ea), fcc := codeOf Config.fccPlace (s.wordAt asi ea) } })
    ∧ (s.fpReady → s.readable asi ea → s.readable asi (ea + 4#32) → ea.extractLsb' 0 3 = 0#3 →
      ∃ t, exec (.lddf rd rs1 o2) s = .next t
        ∧ WritesF t s (doubleGroup rd) (fun r => if r = rd &&& 30#5 then s.wordAt asi ea else s.wordAt asi (ea + 4#32))
        ∧ Agree t { s.ended with fpu := { s.fpu with f := t.fpu.f } })
    ∧ (s.fpReady → s.writable asi ea → ea.extractLsb' 0 2 = 0#2 →
      EndsStoring (exec (.stf rd rs1 o2) s) s asi ea (bytesBE (s.freg rd))
      ∧ EndsStoring (exec (.stfsr rs1 o2) s) s asi ea (bytesBE (fsrWord s.fpu)))
    ∧ (s.fpReady → s.writable asi ea → s.writable asi (ea + 4#32) → ea.extractLsb' 0 3 = 0#3 →
      EndsStoring (exec (.stdf rd rs1 o2) s) s asi ea
        (bytesBE (s.freg (rd &&& 30#5)) ++ bytesBE (s.freg (rd ||| 1#5))))
    ∧ (s.psr.s = true → ¬ s.fpOff → s.writable asi ea → s.writable asi (ea + 4#32) → ea.extractLsb' 0 3 = 0#3 →
      ∀ (addr instr : Word) (rest : List (Word × Word)), s.fpu.queue = (addr, instr) :: rest →
      ∃ t, exec (.stdfq rs1 o2) s = .next t ∧ Stores t s asi ea (bytesBE addr ++ bytesBE instr)
        ∧ Agree t { s.ended with
            mem := t.mem, fpu := { s.fpu with queue := rest, excMode := s.fpu.excMode && !rest.isEmpty } })
    ∧ (s.psr.s = true → ¬ s.fpOff → ea.extractLsb' 0 3 = 0#3 → s.fpu.queue = [] →
      exec (.stdfq rs1 o2) s = .refused .fpQueueEmpty)
    ∧ (s.fpInExceptionMode →
      (∀ i : Instr, (s.readable asi ea ∧ ea.extractLsb' 0 2 = 0#2 ∧ (i = .ldf rd rs1 o2 ∨ i = .ldfsr rs1 o2))
          ∨ (s.readable asi ea ∧ s.readable asi (ea + 4#32) ∧ ea.extractLsb' 0 3 = 0#3 ∧ i = .lddf rd rs1 o2) →
        ∃ t, exec i s = .next t ∧ KeepsFpMode t s ∧ Agree t { s.ended with fpu := t.fpu })
      ∧ (∀ i : Instr, s.writable asi ea → ea.extractLsb' 0 2 = 0#2 → (i = .stf rd rs1 o2 ∨ i = .stfsr rs1 o2) →
        ∃ (t : State) (v : Word), exec i s = .next t ∧ KeepsFpMode t s ∧ Stores t s asi ea (bytesBE v)
          ∧ Agree t { s.ended with mem := t.mem, fpu := t.fpu })
      ∧ (s.writable asi ea → s.writable asi (ea + 4#32) → ea.extractLsb' 0 3 = 0#3 →
        ∃ (t : State) (v w : Word), exec (.stdf rd rs1 o2) s = .next t ∧ KeepsFpMode t s
          ∧ Stores t s asi ea (bytesBE v ++ bytesBE w) ∧ Agree t { s.ended with mem := t.mem, fpu := t.fpu }))

/-- LDC, LDDC, LDCSR, STC, STDC, STCSR and STDCQ complete with the coprocessor enabled, at an aligned address (R50,
R55, R160, R162, R172, R173, R174, R175, R176, R177, R178, R433). As the floating-point forms, on the c registers, the
CSR and the coprocessor queue (R171); LDCSR writes the CSR and the condition codes in it, whose place is open (log
11). The even forcing of an odd rd is log 17, and the order of the words STDCQ stores, and its refusal with an empty
queue, log 13. In exception mode all but STDCQ complete too, with whatever the coprocessor makes of them; it stays in
that mode with its queue entries (log 12). -/
def Obligations.CpLoadsAndStores : Prop :=
  ∀ (s : State) (rd rs1 : Reg) (o2 : Operand2), s.undisturbed →
    let ea := effectiveAddress rs1 o2 s
    let asi := s.dataAsi
    codeOf Config.cccPlace (csrWord s.cp) = s.cp.ccc
    ∧ (s.cpReady → s.readable asi ea → ea.extractLsb' 0 2 = 0#2 →
      (∃ t, exec (.ldc rd rs1 o2) s = .next t ∧ WritesC t s [rd] (fun _ => s.wordAt asi ea)
        ∧ Agree t { s.ended with cpCompare := s.cpCompare, cp := { s.cp with c := t.cp.c } })
      ∧ EndsAs (exec (.ldcsr rs1 o2) s)
          { s.ended with cpCompare := s.cpCompare, cp := { s.cp with
              csr := s.wordAt asi ea, ccc := codeOf Config.cccPlace (s.wordAt asi ea) } })
    ∧ (s.cpReady → s.readable asi ea → s.readable asi (ea + 4#32) → ea.extractLsb' 0 3 = 0#3 →
      ∃ t, exec (.lddc rd rs1 o2) s = .next t
        ∧ WritesC t s (doubleGroup rd) (fun r => if r = rd &&& 30#5 then s.wordAt asi ea else s.wordAt asi (ea + 4#32))
        ∧ Agree t { s.ended with cpCompare := s.cpCompare, cp := { s.cp with c := t.cp.c } })
    ∧ (s.cpReady → s.writable asi ea → ea.extractLsb' 0 2 = 0#2 →
      (∃ t, exec (.stc rd rs1 o2) s = .next t ∧ Stores t s asi ea (bytesBE (s.creg rd))
        ∧ Agree t { s.ended with cpCompare := s.cpCompare, mem := t.mem })
      ∧ ∃ t, exec (.stcsr rs1 o2) s = .next t ∧ Stores t s asi ea (bytesBE (csrWord s.cp))
        ∧ Agree t { s.ended with cpCompare := s.cpCompare, mem := t.mem })
    ∧ (s.cpReady → s.writable asi ea → s.writable asi (ea + 4#32) → ea.extractLsb' 0 3 = 0#3 →
      ∃ t, exec (.stdc rd rs1 o2) s = .next t
        ∧ Stores t s asi ea (bytesBE (s.creg (rd &&& 30#5)) ++ bytesBE (s.creg (rd ||| 1#5)))
        ∧ Agree t { s.ended with cpCompare := s.cpCompare, mem := t.mem })
    ∧ (s.psr.s = true → ¬ s.cpOff → s.writable asi ea → s.writable asi (ea + 4#32) → ea.extractLsb' 0 3 = 0#3 →
      ∀ (addr instr : Word) (rest : List (Word × Word)), s.cp.queue = (addr, instr) :: rest →
      ∃ t, exec (.stdcq rs1 o2) s = .next t ∧ Stores t s asi ea (bytesBE addr ++ bytesBE instr)
        ∧ Agree t { s.ended with
            cpCompare := s.cpCompare, mem := t.mem
            cp := { s.cp with queue := rest, excMode := s.cp.excMode && !rest.isEmpty } })
    ∧ (s.psr.s = true → ¬ s.cpOff → ea.extractLsb' 0 3 = 0#3 → s.cp.queue = [] →
      exec (.stdcq rs1 o2) s = .refused .cpQueueEmpty)
    ∧ (s.cpInExceptionMode →
      (∀ i : Instr, (s.readable asi ea ∧ ea.extractLsb' 0 2 = 0#2 ∧ (i = .ldc rd rs1 o2 ∨ i = .ldcsr rs1 o2))
          ∨ (s.readable asi ea ∧ s.readable asi (ea + 4#32) ∧ ea.extractLsb' 0 3 = 0#3 ∧ i = .lddc rd rs1 o2) →
        ∃ t, exec i s = .next t ∧ KeepsCpMode t s ∧ Agree t { s.ended with cpCompare := s.cpCompare, cp := t.cp })
      ∧ (∀ i : Instr, s.writable asi ea → ea.extractLsb' 0 2 = 0#2 → (i = .stc rd rs1 o2 ∨ i = .stcsr rs1 o2) →
        ∃ (t : State) (v : Word), exec i s = .next t ∧ KeepsCpMode t s ∧ Stores t s asi ea (bytesBE v)
          ∧ Agree t { s.ended with cpCompare := s.cpCompare, mem := t.mem, cp := t.cp })
      ∧ (s.writable asi ea → s.writable asi (ea + 4#32) → ea.extractLsb' 0 3 = 0#3 →
        ∃ (t : State) (v w : Word), exec (.stdc rd rs1 o2) s = .next t ∧ KeepsCpMode t s
          ∧ Stores t s asi ea (bytesBE v ++ bytesBE w)
          ∧ Agree t { s.ended with cpCompare := s.cpCompare, mem := t.mem, cp := t.cp }))

/-- Each named FPop completes with a ready FPU: its result in the destination group, or its exception pending (R49,
R104, R105, R302, R303, R306, R310). FMOVs, FNEGs and FABSs copy f[rs2] with bit 31 kept, inverted or cleared; the
square roots, arithmetic and conversions write the words of a free result to the group of rd; the compares write a
free relation to the condition codes. Which operands raise an FPU exception and what the FSR then holds is free (log
10); a raised exception leaves the instruction in the queue with its address and is deferred. That an FPop is executed
wholly at its launch is log 9, that the registers of an extended operand wrap modulo 32 log 17; register groups, rd
and the copy are from outside the source (R310). -/
def Obligations.FpOperations : Prop :=
  ∀ rd rs1 rs2 : Reg,
    FpCopies (.fmovs rd rs2) 0b000000001#9 rd rs2 (fun v => v)
    ∧ FpCopies (.fnegs rd rs2) 0b000000101#9 rd rs2 (fun v => v ^^^ 0x80000000#32)
    ∧ FpCopies (.fabss rd rs2) 0b000001001#9 rd rs2 (fun v => v &&& 0x7FFFFFFF#32)
    ∧ FpComputes (.fsqrts rd rs2) 0b000101001#9 [] [rs2] [rd]
    ∧ FpComputes (.fsqrtd rd rs2) 0b000101010#9 [] (doubleGroup rs2) (doubleGroup rd)
    ∧ FpComputes (.fsqrtx rd rs2) 0b000101011#9 [] (quadGroup rs2) (quadGroup rd)
    ∧ FpComputes (.fadds rd rs1 rs2) 0b001000001#9 [rs1] [rs2] [rd]
    ∧ FpComputes (.faddd rd rs1 rs2) 0b001000010#9 (doubleGroup rs1) (doubleGroup rs2) (doubleGroup rd)
    ∧ FpComputes (.faddx rd rs1 rs2) 0b001000011#9 (quadGroup rs1) (quadGroup rs2) (quadGroup rd)
    ∧ FpComputes (.fsubs rd rs1 rs2) 0b001000101#9 [rs1] [rs2] [rd]
    ∧ FpComputes (.fsubd rd rs1 rs2) 0b001000110#9 (doubleGroup rs1) (doubleGroup rs2) (doubleGroup rd)
    ∧ FpComputes (.fsubx rd rs1 rs2) 0b001000111#9 (quadGroup rs1) (quadGroup rs2) (quadGroup rd)
    ∧ FpComputes (.fmuls rd rs1 rs2) 0b001001001#9 [rs1] [rs2] [rd]
    ∧ FpComputes (.fmuld rd rs1 rs2) 0b001001010#9 (doubleGroup rs1) (doubleGroup rs2) (doubleGroup rd)
    ∧ FpComputes (.fmulx rd rs1 rs2) 0b001001011#9 (quadGroup rs1) (quadGroup rs2) (quadGroup rd)
    ∧ FpComputes (.fdivs rd rs1 rs2) 0b001001101#9 [rs1] [rs2] [rd]
    ∧ FpComputes (.fdivd rd rs1 rs2) 0b001001110#9 (doubleGroup rs1) (doubleGroup rs2) (doubleGroup rd)
    ∧ FpComputes (.fdivx rd rs1 rs2) 0b001001111#9 (quadGroup rs1) (quadGroup rs2) (quadGroup rd)
    ∧ FpComputes (.fitos rd rs2) 0b011000100#9 [] [rs2] [rd]
    ∧ FpComputes (.fdtos rd rs2) 0b011000110#9 [] (doubleGroup rs2) [rd]
    ∧ FpComputes (.fxtos rd rs2) 0b011000111#9 [] (quadGroup rs2) [rd]
    ∧ FpComputes (.fitod rd rs2) 0b011001000#9 [] [rs2] (doubleGroup rd)
    ∧ FpComputes (.fstod rd rs2) 0b011001001#9 [] [rs2] (doubleGroup rd)
    ∧ FpComputes (.fxtod rd rs2) 0b011001011#9 [] (quadGroup rs2) (doubleGroup rd)
    ∧ FpComputes (.fitox rd rs2) 0b011001100#9 [] [rs2] (quadGroup rd)
    ∧ FpComputes (.fstox rd rs2) 0b011001101#9 [] [rs2] (quadGroup rd)
    ∧ FpComputes (.fdtox rd rs2) 0b011001110#9 [] (doubleGroup rs2) (quadGroup rd)
    ∧ FpComputes (.fstoi rd rs2) 0b011010001#9 [] [rs2] [rd]
    ∧ FpComputes (.fdtoi rd rs2) 0b011010010#9 [] (doubleGroup rs2) [rd]
    ∧ FpComputes (.fxtoi rd rs2) 0b011010011#9 [] (quadGroup rs2) [rd]
    ∧ FpCompares (.fcmps rs1 rs2) 0b001010001#9 [rs1] [rs2]
    ∧ FpCompares (.fcmpd rs1 rs2) 0b001010010#9 (doubleGroup rs1) (doubleGroup rs2)
    ∧ FpCompares (.fcmpx rs1 rs2) 0b001010011#9 (quadGroup rs1) (quadGroup rs2)
    ∧ FpCompares (.fcmpes rs1 rs2) 0b001010101#9 [rs1] [rs2]
    ∧ FpCompares (.fcmped rs1 rs2) 0b001010110#9 (doubleGroup rs1) (doubleGroup rs2)
    ∧ FpCompares (.fcmpex rs1 rs2) 0b001010111#9 (quadGroup rs1) (quadGroup rs2)

/-- FPop1 and FPop2 with an opf that names no operation leave an exception pending; CPops complete; so do all in
exception mode (R50, R55, R109, R301, R302, R306, R307, R308, R309). Launched with a ready FPU, an unimplemented FPop
completes for the IU and leaves its word and address in the queue with the exception pending in the very next state
(log 9); the FSR is free (log 10). A CPop completes for the IU: either the coprocessor completes it, with c registers,
CSR and CCC that are free, or it raises its exception, which leaves the CPop in the queue with its address, behind
what is there, the exception pending in the very next state (log 9) and no result written, the CSR being free; which
of the two is free, and so is (log 42) whether it is a compare, which opens the spacing of R255. In exception mode
every FPop and CPop is launched and completes for the IU; the answer of the unit is free but that it stays in that
mode with its queue entries (log 12). -/
def Obligations.UnassignedFpopAndCpops : Prop :=
  (∀ (s : State) (rd rs1 rs2 : Reg) (opf : BitVec 9), s.fpReady → ∀ i ∈ [Instr.fpop1 rd rs1 opf rs2, .fpop2 rd rs1 opf rs2],
      EndsAs (exec i s) { s.ended with fpu := { s.fpu with
        queue := s.fpu.queue ++ [(s.pc, s.ir)], excPending := true
        fsr := Config.fsrAfterException s.ir (fsrWord s.fpu) } })
  ∧ (∀ (s : State) (rd rs1 rs2 : Reg) (opc : BitVec 9), s.cpReady →
      CpopRuns (.cpop1 rd rs1 opc rs2) s false opc rd rs1 rs2 ∧ CpopRuns (.cpop2 rd rs1 opc rs2) s true opc rd rs1 rs2)
  ∧ (∀ (s : State) (rd rs1 rs2 : Reg) (opf : BitVec 9), s.fpInExceptionMode → ∀ i ∈ fpopForms rd rs1 rs2 opf,
      ∃ t, exec i s = .next t ∧ t.events = s.events ++ [.launchFp s.ir s.pc] ∧ KeepsFpMode t s
        ∧ Agree t { s.ended with fpu := t.fpu })
  ∧ ∀ (s : State) (rd rs1 rs2 : Reg) (opc : BitVec 9), s.cpInExceptionMode →
      ∀ i ∈ [Instr.cpop1 rd rs1 opc rs2, .cpop2 rd rs1 opc rs2],
      ∃ t, exec i s = .next t ∧ t.events = s.events ++ [.launchCp s.ir s.pc] ∧ KeepsCpMode t s
        ∧ Agree t { s.ended with cp := t.cp, cpCompare := t.cpCompare }

/-- With its unit disabled or absent every floating-point and coprocessor instruction raises its disabled trap (R39,
R40, R179, R341, R342, R403). All 16 FBfcc, all FPops, named or not, and the floating-point loads and stores raise
fp_disabled before any operand is examined (STDFQ in supervisor mode); the coprocessor ones cp_disabled. So does an
FBfcc that finds wrong control parity, with parity checking enabled (that HWERROR is left alone there is log 29, the
model's choice). -/
def Obligations.DisabledUnitsTrap : Prop :=
  ∀ (s : State) (rd rs1 rs2 : Reg) (o2 : Operand2) (opf : BitVec 9) (a : Bool) (d : BitVec 22),
    (s.fpOff →
      (∀ i ∈ fbfccForms a d ++ fpopForms rd rs1 rs2 opf ++ fpWordForms rd rs1 o2 ++ fpDoubleForms rd rs1 o2,
        Traps .fpDisabled i s)
      ∧ (s.psr.s = true → Traps .fpDisabled (.stdfq rs1 o2) s))
    ∧ (s.cpOff →
      (∀ i ∈ cbcccForms a d ++ [.cpop1 rd rs1 opf rs2, .cpop2 rd rs1 opf rs2] ++ cpWordForms rd rs1 o2
          ++ cpDoubleForms rd rs1 o2, Traps .cpDisabled i s)
      ∧ (s.psr.s = true → Traps .cpDisabled (.stdcq rs1 o2) s))
    ∧ (s.cfg.parityInEnabled = true → s.pins.fipar = true → ∀ i ∈ fbfccForms a d, Traps .fpDisabled i s)

/-- With an exception pending in its unit the next unit instruction raises fp_exception or cp_exception (R11, R50,
R55, R161, R343, R344, R434). Every FBfcc (with good control parity) and FPop, and every floating-point load and store
but STDFQ at an aligned address, with the FPU enabled; the coprocessor ones likewise. Taking the trap acknowledges the
unit: no exception is pending any more and the unit is in exception mode if its queue has entries. An exception is
pending too where the environment asserts FEXC or CEXC: the unfinished instructions it gives are then in the queue
behind what was there (log 53, the model's choice), so that exception mode is entered; an assertion while an exception
is pending adds nothing. -/
def Obligations.PendingExceptionsTrap : Prop :=
  (∀ (s : State) (rd rs1 rs2 : Reg) (o2 : Operand2) (opf : BitVec 9) (a : Bool) (d : BitVec 22),
    ¬ s.fpOff → s.fpu.excPending = true →
      ((s.cfg.parityInEnabled && s.pins.fipar) = false → ∀ i ∈ fbfccForms a d, Traps .fpException i s)
      ∧ (∀ i ∈ fpopForms rd rs1 rs2 opf, Traps .fpException i s)
      ∧ ((effectiveAddress rs1 o2 s).extractLsb' 0 2 = 0#2 → ∀ i ∈ fpWordForms rd rs1 o2, Traps .fpException i s)
      ∧ ((effectiveAddress rs1 o2 s).extractLsb' 0 3 = 0#3 → ∀ i ∈ fpDoubleForms rd rs1 o2, Traps .fpException i s))
  ∧ (∀ (s : State) (rd rs1 rs2 : Reg) (o2 : Operand2) (opc : BitVec 9) (a : Bool) (d : BitVec 22),
    ¬ s.cpOff → s.cp.excPending = true →
      (∀ i ∈ cbcccForms a d ++ [.cpop1 rd rs1 opc rs2, .cpop2 rd rs1 opc rs2], Traps .cpException i s)
      ∧ ((effectiveAddress rs1 o2 s).extractLsb' 0 2 = 0#2 → ∀ i ∈ cpWordForms rd rs1 o2, Traps .cpException i s)
      ∧ ((effectiveAddress rs1 o2 s).extractLsb' 0 3 = 0#3 → ∀ i ∈ cpDoubleForms rd rs1 o2, Traps .cpException i s))
  ∧ ∀ s : State, (raiseAt s.pc s.npc .fpException s).fpu.excPending = false
      ∧ ((raiseAt s.pc s.npc .fpException s).fpu.excMode = true ↔ s.fpu.queue ≠ [])
      ∧ (raiseAt s.pc s.npc .cpException s).cp.excPending = false
      ∧ ((raiseAt s.pc s.npc .cpException s).cp.excMode = true ↔ s.cp.queue ≠ [])
      ∧ (s.sample.fexc ≠ [] → s.fpu.excPending = false →
          s.nextSample.fpu.excPending = true ∧ s.nextSample.fpu.queue = s.fpu.queue ++ s.sample.fexc
          ∧ s.nextSample.fpu.excMode = s.fpu.excMode
          ∧ (raiseAt s.pc s.npc .fpException s.nextSample).fpu.excMode = true)
      ∧ (s.sample.cexc ≠ [] → s.cp.excPending = false →
          s.nextSample.cp.excPending = true ∧ s.nextSample.cp.queue = s.cp.queue ++ s.sample.cexc
          ∧ s.nextSample.cp.excMode = s.cp.excMode
          ∧ (raiseAt s.pc s.npc .cpException s.nextSample).cp.excMode = true)
      ∧ (s.fpu.excPending = true → s.nextSample.fpu.queue = s.fpu.queue ∧ s.nextSample.fpu.excPending = true)
      ∧ (s.cp.excPending = true → s.nextSample.cp.queue = s.cp.queue ∧ s.nextSample.cp.excPending = true)
end

