-- ==== Sys2Proof/Laws/Encoding.lean ====
section
/-! SUPPORT. The fields of an encoded word: reading a field of a format gives what was put there. -/

namespace Sys2Proof

open BitVec

section Format3

variable (op : BitVec 2) (rd : Reg) (op3 : BitVec 6) (rs1 : Reg) (t : BitVec 14)

@[simp] theorem opField_format3 : opField (format3 op rd op3 rs1 t) = op := by
  have h : (op ++ rd ++ op3 ++ rs1 ++ t).extractLsb' 30 2 = op := by
    rw [extractLsb'_append_eq_of_le (by decide), extractLsb'_append_eq_of_le (by decide),
      extractLsb'_append_eq_of_le (by decide), extractLsb'_append_eq_of_le (by decide)]
    exact extractLsb'_eq_self
  exact h

@[simp] theorem rdField_format3 : rdField (format3 op rd op3 rs1 t) = rd := by
  have h : (op ++ rd ++ op3 ++ rs1 ++ t).extractLsb' 25 5 = rd := by
    rw [extractLsb'_append_eq_of_le (by decide), extractLsb'_append_eq_of_le (by decide),
      extractLsb'_append_eq_of_le (by decide), extractLsb'_append_eq_of_add_le (by decide)]
    exact extractLsb'_eq_self
  exact h

@[simp] theorem op3Field_format3 : op3Field (format3 op rd op3 rs1 t) = op3 := by
  have h : (op ++ rd ++ op3 ++ rs1 ++ t).extractLsb' 19 6 = op3 := by
    rw [extractLsb'_append_eq_of_le (by decide), extractLsb'_append_eq_of_le (by decide),
      extractLsb'_append_eq_of_add_le (by decide)]
    exact extractLsb'_eq_self
  exact h

@[simp] theorem rs1Field_format3 : rs1Field (format3 op rd op3 rs1 t) = rs1 := by
  have h : (op ++ rd ++ op3 ++ rs1 ++ t).extractLsb' 14 5 = rs1 := by
    rw [extractLsb'_append_eq_of_le (by decide), extractLsb'_append_eq_of_add_le (by decide)]
    exact extractLsb'_eq_self
  exact h

@[simp] theorem condField_format3 : condField (format3 op rd op3 rs1 t) = rd.extractLsb' 0 4 := by
  have h : (op ++ rd ++ op3 ++ rs1 ++ t).extractLsb' 25 4 = rd.extractLsb' 0 4 := by
    rw [extractLsb'_append_eq_of_le (by decide), extractLsb'_append_eq_of_le (by decide),
      extractLsb'_append_eq_of_le (by decide), extractLsb'_append_eq_of_add_le (by decide)]
  exact h

@[simp] theorem rs2Field_format3 : rs2Field (format3 op rd op3 rs1 t) = t.extractLsb' 0 5 := by
  have h : (op ++ rd ++ op3 ++ rs1 ++ t).extractLsb' 0 5 = t.extractLsb' 0 5 := by
    rw [extractLsb'_append_eq_of_add_le (by decide)]
  exact h

@[simp] theorem simm13Field_format3 : simm13Field (format3 op rd op3 rs1 t) = t.extractLsb' 0 13 := by
  have h : (op ++ rd ++ op3 ++ rs1 ++ t).extractLsb' 0 13 = t.extractLsb' 0 13 := by
    rw [extractLsb'_append_eq_of_add_le (by decide)]
  exact h

@[simp] theorem asiField_format3 : asiField (format3 op rd op3 rs1 t) = t.extractLsb' 5 8 := by
  have h : (op ++ rd ++ op3 ++ rs1 ++ t).extractLsb' 5 8 = t.extractLsb' 5 8 := by
    rw [extractLsb'_append_eq_of_add_le (by decide)]
  exact h

@[simp] theorem opfField_format3 : opfField (format3 op rd op3 rs1 t) = t.extractLsb' 5 9 := by
  have h : (op ++ rd ++ op3 ++ rs1 ++ t).extractLsb' 5 9 = t.extractLsb' 5 9 := by
    rw [extractLsb'_append_eq_of_add_le (by decide)]
  exact h

@[simp] theorem iField_format3 : iField (format3 op rd op3 rs1 t) = t.getLsbD 13 := by
  have h : (op ++ rd ++ op3 ++ rs1 ++ t).getLsbD 13 = t.getLsbD 13 := by rw [getLsbD_append]; rfl
  exact h

end Format3

section Format2

variable (rd : Reg) (op2 : BitVec 3) (low : BitVec 22)

@[simp] theorem opField_format2 : opField (format2 rd op2 low) = 0b00#2 := by
  have h : (0b00#2 ++ rd ++ op2 ++ low).extractLsb' 30 2 = 0b00#2 := by
    rw [extractLsb'_append_eq_of_le (by decide), extractLsb'_append_eq_of_le (by decide),
      extractLsb'_append_eq_of_le (by decide)]
    exact extractLsb'_eq_self
  exact h

@[simp] theorem rdField_format2 : rdField (format2 rd op2 low) = rd := by
  have h : (0b00#2 ++ rd ++ op2 ++ low).extractLsb' 25 5 = rd := by
    rw [extractLsb'_append_eq_of_le (by decide), extractLsb'_append_eq_of_le (by decide),
      extractLsb'_append_eq_of_add_le (by decide)]
    exact extractLsb'_eq_self
  exact h

@[simp] theorem op2Field_format2 : op2Field (format2 rd op2 low) = op2 := by
  have h : (0b00#2 ++ rd ++ op2 ++ low).extractLsb' 22 3 = op2 := by
    rw [extractLsb'_append_eq_of_le (by decide), extractLsb'_append_eq_of_add_le (by decide)]
    exact extractLsb'_eq_self
  exact h

@[simp] theorem low22Field_format2 : low22Field (format2 rd op2 low) = low := by
  have h : (0b00#2 ++ rd ++ op2 ++ low).extractLsb' 0 22 = low := by
    rw [extractLsb'_append_eq_of_add_le (by decide)]
    exact extractLsb'_eq_self
  exact h

@[simp] theorem sigField_format2 : (format2 rd op2 low).extractLsb' 0 16 = low.extractLsb' 0 16 := by
  have h : (0b00#2 ++ rd ++ op2 ++ low).extractLsb' 0 16 = low.extractLsb' 0 16 := by
    rw [extractLsb'_append_eq_of_add_le (by decide)]
  exact h

end Format2

section Branch

variable (a : Bool) (cond : BitVec 4) (op2 : BitVec 3) (disp22 : BitVec 22)

@[simp] theorem opField_formatBranch : opField (formatBranch a cond op2 disp22) = 0b00#2 := by
  have h : (0b00#2 ++ BitVec.ofBool a ++ cond ++ op2 ++ disp22).extractLsb' 30 2 = 0b00#2 := by
    rw [extractLsb'_append_eq_of_le (by decide), extractLsb'_append_eq_of_le (by decide),
      extractLsb'_append_eq_of_le (by decide), extractLsb'_append_eq_of_le (by decide)]
    exact extractLsb'_eq_self
  exact h

@[simp] theorem condField_formatBranch : condField (formatBranch a cond op2 disp22) = cond := by
  have h : (0b00#2 ++ BitVec.ofBool a ++ cond ++ op2 ++ disp22).extractLsb' 25 4 = cond := by
    rw [extractLsb'_append_eq_of_le (by decide), extractLsb'_append_eq_of_le (by decide),
      extractLsb'_append_eq_of_add_le (by decide)]
    exact extractLsb'_eq_self
  exact h

@[simp] theorem op2Field_formatBranch : op2Field (formatBranch a cond op2 disp22) = op2 := by
  have h : (0b00#2 ++ BitVec.ofBool a ++ cond ++ op2 ++ disp22).extractLsb' 22 3 = op2 := by
    rw [extractLsb'_append_eq_of_le (by decide), extractLsb'_append_eq_of_add_le (by decide)]
    exact extractLsb'_eq_self
  exact h

@[simp] theorem low22Field_formatBranch : low22Field (formatBranch a cond op2 disp22) = disp22 := by
  have h : (0b00#2 ++ BitVec.ofBool a ++ cond ++ op2 ++ disp22).extractLsb' 0 22 = disp22 := by
    rw [extractLsb'_append_eq_of_add_le (by decide)]
    exact extractLsb'_eq_self
  exact h

@[simp] theorem aField_formatBranch : aField (formatBranch a cond op2 disp22) = a := by
  have h : (0b00#2 ++ BitVec.ofBool a ++ cond ++ op2 ++ disp22).getLsbD 29 = a := by
    rw [getLsbD_append, getLsbD_append, getLsbD_append, getLsbD_append]
    cases a <;> rfl
  exact h

end Branch

/-! ### Call -/

@[simp] theorem opField_call (disp30 : BitVec 30) : opField (encode (.call disp30)) = 0b01#2 := by
  have h : (0b01#2 ++ disp30).extractLsb' 30 2 = 0b01#2 := by
    rw [extractLsb'_append_eq_of_le (by decide)]
    exact extractLsb'_eq_self
  exact h

@[simp] theorem disp30Field_call (disp30 : BitVec 30) : disp30Field (encode (.call disp30)) = disp30 := by
  have h : (0b01#2 ++ disp30).extractLsb' 0 30 = disp30 := by
    rw [extractLsb'_append_eq_of_add_le (by decide)]
    exact extractLsb'_eq_self
  exact h

/-! ### Bits 13:0 -/

section Tail

variable (rs2 : Reg) (asi : Asi) (opf : BitVec 9)

@[simp] theorem rs2_opfBits : (opfBits opf rs2).extractLsb' 0 5 = rs2 := by
  have h : (opf ++ rs2).extractLsb' 0 5 = rs2 := by
    rw [extractLsb'_append_eq_of_add_le (by decide)]
    exact extractLsb'_eq_self
  exact h

@[simp] theorem opf_opfBits : (opfBits opf rs2).extractLsb' 5 9 = opf := by
  have h : (opf ++ rs2).extractLsb' 5 9 = opf := by
    rw [extractLsb'_append_eq_of_le (by decide)]
    exact extractLsb'_eq_self
  exact h

@[simp] theorem rs2_alternateBits : (alternateBits asi rs2).extractLsb' 0 5 = rs2 := by
  have h : (0#1 ++ asi ++ rs2).extractLsb' 0 5 = rs2 := by
    rw [extractLsb'_append_eq_of_add_le (by decide)]
    exact extractLsb'_eq_self
  exact h

@[simp] theorem asi_alternateBits : (alternateBits asi rs2).extractLsb' 5 8 = asi := by
  have h : (0#1 ++ asi ++ rs2).extractLsb' 5 8 = asi := by
    rw [extractLsb'_append_eq_of_le (by decide), extractLsb'_append_eq_of_add_le (by decide)]
    exact extractLsb'_eq_self
  exact h

theorem i_alternateBits : (alternateBits asi rs2).getLsbD 13 = false := by
  have h : (0#1 ++ asi ++ rs2).getLsbD 13 = false := by
    rw [getLsbD_append, getLsbD_append]; rfl
  exact h

@[simp] theorem i_alternateBits_getElem : (alternateBits asi rs2)[13] = false := i_alternateBits rs2 asi

end Tail

/-- The second operand of an encoded format 3 word. -/
@[simp] theorem operand2Field_format3 (op : BitVec 2) (rd : Reg) (op3 : BitVec 6) (rs1 : Reg) (o : Operand2) :
    operand2Field (format3 op rd op3 rs1 o.bits) = o := by
  unfold operand2Field
  rw [iField_format3, simm13Field_format3, rs2Field_format3]
  cases o with
  | reg r =>
    have hi : (0#1 ++ 0#8 ++ r).getLsbD 13 = false := by rw [getLsbD_append, getLsbD_append]; rfl
    have hr : (0#1 ++ 0#8 ++ r).extractLsb' 0 5 = r := by
      rw [extractLsb'_append_eq_of_add_le (by decide)]; exact extractLsb'_eq_self
    show (if (0#1 ++ 0#8 ++ r).getLsbD 13 then _ else Operand2.reg ((0#1 ++ 0#8 ++ r).extractLsb' 0 5)) = _
    rw [hi, hr]; rfl
  | imm k =>
    have hi : (1#1 ++ k).getLsbD 13 = true := by rw [getLsbD_append]; rfl
    have hk : (1#1 ++ k).extractLsb' 0 13 = k := by
      rw [extractLsb'_append_eq_of_add_le (by decide)]; exact extractLsb'_eq_self
    show (if (1#1 ++ k).getLsbD 13 then Operand2.imm ((1#1 ++ k).extractLsb' 0 13) else _) = _
    rw [hi, hk]; rfl

/-- The shift count of an encoded format 3 word. -/
@[simp] theorem shiftCountField_format3 (op : BitVec 2) (rd : Reg) (op3 : BitVec 6) (rs1 : Reg) (c : ShiftCount) :
    shiftCountField (format3 op rd op3 rs1 c.bits) = c := by
  unfold shiftCountField
  rw [iField_format3, rs2Field_format3]
  cases c with
  | reg r =>
    have hi : (0#1 ++ 0#8 ++ r).getLsbD 13 = false := by rw [getLsbD_append, getLsbD_append]; rfl
    have hr : (0#1 ++ 0#8 ++ r).extractLsb' 0 5 = r := by
      rw [extractLsb'_append_eq_of_add_le (by decide)]; exact extractLsb'_eq_self
    show (if (0#1 ++ 0#8 ++ r).getLsbD 13 then _ else ShiftCount.reg ((0#1 ++ 0#8 ++ r).extractLsb' 0 5)) = _
    rw [hi, hr]; rfl
  | imm r =>
    have hi : (1#1 ++ 0#8 ++ r).getLsbD 13 = true := by rw [getLsbD_append, getLsbD_append]; rfl
    have hr : (1#1 ++ 0#8 ++ r).extractLsb' 0 5 = r := by
      rw [extractLsb'_append_eq_of_add_le (by decide)]; exact extractLsb'_eq_self
    show (if (1#1 ++ 0#8 ++ r).getLsbD 13 then ShiftCount.imm ((1#1 ++ 0#8 ++ r).extractLsb' 0 5) else _) = _
    rw [hi, hr]; rfl

/-- The cond field of an encoded Ticc: bit 29 is 0. -/
@[simp] theorem cond_ticc (cond : BitVec 4) : (0#1 ++ cond : BitVec 5).extractLsb' 0 4 = cond := by
  have h : (0#1 ++ cond).extractLsb' 0 4 = cond := by
    rw [extractLsb'_append_eq_of_add_le (by decide)]; exact extractLsb'_eq_self
  exact h

end Sys2Proof
end

