-- ==== Sys2Proof/Laws/Memory.lean ====
section
/-! SUPPORT. The laws of memory: a read after a write, the canonical form, and the cells of an access. -/

namespace Sys2Proof.Machine

/-! ### Read after write -/

theorem readCell_eraseCell (m : List Host.Cell) (k k' : Nat) :
    readCell (eraseCell m k) k' = if k' = k then background else readCell m k' := by
  induction m with
  | nil => simp [eraseCell, readCell]
  | cons c m ih =>
    obtain ⟨a, b⟩ := c
    simp only [eraseCell] at ih ⊢
    by_cases h : a = k
    · subst h
      simp only [List.filter_cons, bne_self_eq_false, Bool.false_eq_true, ↓reduceIte, ih, readCell]
      by_cases h' : k' = a
      · simp [h']
      · simp [h', Ne.symm h']
    · have hb : (a != k) = true := by simpa using h
      simp only [List.filter_cons, hb, ↓reduceIte, readCell, ih]
      by_cases h' : a = k'
      · subst h'; simp [h]
      · simp [h']

theorem readCell_insertCell (m : List Host.Cell) (k : Nat) (b : Byte) (k' : Nat) (h : ∀ c ∈ m, c.1 ≠ k) :
    readCell (insertCell k b m) k' = if k' = k then b else readCell m k' := by
  induction m with
  | nil =>
    by_cases h' : k' = k
    · simp [insertCell, readCell, h']
    · simp [insertCell, readCell, h', Ne.symm h']
  | cons c m ih =>
    obtain ⟨a, c⟩ := c
    have ha : a ≠ k := h (a, c) (by simp)
    have hm := ih (fun c hc => h c (by simp [hc]))
    simp only [insertCell]
    split
    · by_cases h' : k' = k
      · simp [readCell, h']
      · simp [readCell, h', Ne.symm h']
    · by_cases h' : k' = k
      · subst h'; simp [readCell, ha, hm]
      · simp [readCell, hm, h']

theorem eraseCell_key_ne (m : List Host.Cell) (k : Nat) : ∀ c ∈ eraseCell m k, c.1 ≠ k := by
  intro c hc
  simp only [eraseCell, List.mem_filter] at hc
  simpa using hc.2

/-- A read after a write gives the byte written, and every other byte reads as before. -/
theorem readCell_writeCell (m : List Host.Cell) (k : Nat) (b : Byte) (k' : Nat) :
    readCell (writeCell m k b) k' = if k' = k then b else readCell m k' := by
  unfold writeCell
  split
  · next h => rw [readCell_eraseCell, h]
  · rw [readCell_insertCell _ _ _ _ (eraseCell_key_ne m k), readCell_eraseCell]
    by_cases h' : k' = k <;> simp [h']

@[simp] theorem writeCells_nil (m : List Host.Cell) : writeCells m [] = m := rfl

@[simp] theorem writeCells_cons (m : List Host.Cell) (c : Host.Cell) (cs : List Host.Cell) :
    writeCells m (c :: cs) = writeCells (writeCell m c.1 c.2) cs := rfl

/-- Bytes outside the cells written read as before. -/
theorem readCell_writeCells_of_notMem (m cs : List Host.Cell) (k : Nat) (h : ∀ c ∈ cs, c.1 ≠ k) :
    readCell (writeCells m cs) k = readCell m k := by
  induction cs generalizing m with
  | nil => rfl
  | cons c cs ih =>
    rw [writeCells_cons, ih _ (fun c hc => h c (by simp [hc])), readCell_writeCell,
      if_neg (Ne.symm (h c (by simp)))]

/-! ### The canonical form -/

theorem rising_cons_iff (lo : Option Nat) (a : Nat) (b : Byte) (m : List Host.Cell) :
    rising lo ((a, b) :: m) = true ↔ (∀ l, lo = some l → l < a) ∧ rising (some a) m = true := by
  cases lo <;> simp [rising]

theorem rising_weaken {lo : Option Nat} {a : Nat} {m : List Host.Cell} (hm : rising (some a) m = true)
    (h : ∀ l, lo = some l → l ≤ a) : rising lo m = true := by
  cases m with
  | nil => cases lo <;> rfl
  | cons c m =>
    obtain ⟨k, b⟩ := c
    rw [rising_cons_iff] at hm ⊢
    exact ⟨fun l hl => Nat.lt_of_le_of_lt (h l hl) (hm.1 a rfl), hm.2⟩

theorem rising_filter (p : Host.Cell → Bool) {lo : Option Nat} {m : List Host.Cell} (h : rising lo m = true) :
    rising lo (m.filter p) = true := by
  induction m generalizing lo with
  | nil => simpa using h
  | cons c m ih =>
    obtain ⟨a, b⟩ := c
    rw [rising_cons_iff] at h
    rw [List.filter_cons]
    split
    · rw [rising_cons_iff]; exact ⟨h.1, ih h.2⟩
    · exact ih (rising_weaken h.2 (fun l hl => Nat.le_of_lt (h.1 l hl)))

theorem rising_insertCell {lo : Option Nat} {m : List Host.Cell} {k : Nat} (b : Byte) (h : rising lo m = true)
    (hk : ∀ c ∈ m, c.1 ≠ k) (hlo : ∀ l, lo = some l → l < k) : rising lo (insertCell k b m) = true := by
  induction m generalizing lo with
  | nil => rw [insertCell, rising_cons_iff]; exact ⟨hlo, rfl⟩
  | cons c m ih =>
    obtain ⟨a, c⟩ := c
    rw [rising_cons_iff] at h
    have ha : a ≠ k := hk (a, c) (by simp)
    rw [insertCell]
    split
    · next hka =>
      rw [rising_cons_iff, rising_cons_iff]
      exact ⟨hlo, fun l hl => by cases hl; exact hka, h.2⟩
    · next hka =>
      rw [rising_cons_iff]
      exact ⟨h.1, ih h.2 (fun c hc => hk c (by simp [hc])) (fun l hl => by cases hl; omega)⟩

theorem insertCell_mem {m : List Host.Cell} {k : Nat} {b : Byte} {c : Host.Cell} (h : c ∈ insertCell k b m) :
    c = (k, b) ∨ c ∈ m := by
  induction m with
  | nil => simpa [insertCell] using h
  | cons d m ih =>
    obtain ⟨a, x⟩ := d
    rw [insertCell] at h
    split at h
    · simpa using h
    · rcases List.mem_cons.1 h with h | h
      · exact .inr (by simp [h])
      · rcases ih h with h | h
        · exact .inl h
        · exact .inr (by simp [h])

theorem wf_nil : Memory.wf [] = true := rfl

theorem wf_eraseCell {m : List Host.Cell} (k : Nat) (h : Memory.wf m = true) : Memory.wf (eraseCell m k) = true := by
  simp only [Memory.wf, Bool.and_eq_true, List.all_eq_true] at h ⊢
  exact ⟨rising_filter _ h.1, fun c hc => h.2 c (List.mem_of_mem_filter hc)⟩

/-- A write keeps the canonical form. -/
theorem wf_writeCell {m : List Host.Cell} (k : Nat) (b : Byte) (h : Memory.wf m = true) :
    Memory.wf (writeCell m k b) = true := by
  unfold writeCell
  split
  · exact wf_eraseCell k h
  · next hb =>
    have he := wf_eraseCell k h
    simp only [Memory.wf, Bool.and_eq_true, List.all_eq_true] at he ⊢
    refine ⟨rising_insertCell b he.1 (eraseCell_key_ne m k) (by simp), fun c hc => ?_⟩
    rcases insertCell_mem hc with rfl | hc
    · simpa using hb
    · exact he.2 c hc

/-- Several writes keep the canonical form. -/
theorem wf_writeCells {m : List Host.Cell} (cs : List Host.Cell) (h : Memory.wf m = true) :
    Memory.wf (writeCells m cs) = true := by
  induction cs generalizing m with
  | nil => exact h
  | cons c cs ih => exact ih (wf_writeCell c.1 c.2 h)

/-! ### The cells of an access -/

/-- A doubleword's number and the place in it name the address. -/
theorem eq_of_block_place {a b : Word} (hb : a.extractLsb' 3 29 = b.extractLsb' 3 29)
    (hp : a.extractLsb' 0 3 = b.extractLsb' 0 3) : a = b := by
  have h (x : Word) : x.extractLsb' 3 29 ++ x.extractLsb' 0 3 = x := by
    rw [BitVec.extractLsb'_append_extractLsb'_eq_extractLsb' (by decide)]
    exact BitVec.extractLsb'_eq_self
  rw [← h a, ← h b, hb, hp]

/-- Different addresses of one doubleword have different cells, whatever the platform. -/
theorem cellKey_inj {p : List Region} {asi : Asi} {a b : Word} (h : a.extractLsb' 3 29 = b.extractLsb' 3 29) :
    cellKey p asi a = cellKey p asi b ↔ a = b := by
  refine ⟨fun e => eq_of_block_place h (BitVec.eq_of_toNat_eq ?_), fun e => e ▸ rfl⟩
  simp only [cellKey, h] at e
  omega

/-- ASIs 0x08 to 0x0B name the same cells, whatever the platform (R73). -/
theorem cellKey_shared {p : List Region} {asi asi' : Asi} (h : sharedAsi asi = true) (h' : sharedAsi asi' = true) (a : Word) :
    cellKey p asi a = cellKey p asi' a := by simp [cellKey, storageOf, spaceNumber, h, h']

/-- On a platform without a map to storage of its own, the bytes of ASIs 0x08 to 0x0B are keyed by their address. -/
theorem cellKey_flat {p : List Region} (hp : ∀ r ∈ p, r.stored = none) {asi : Asi} (h : sharedAsi asi = true) (a : Word) :
    cellKey p asi a = a.toNat := by
  have hs : storageOf p asi (a.extractLsb' 3 29) = (0, a.extractLsb' 3 29) := by
    unfold storageOf
    split
    · simp [spaceNumber, h]
    · next r hr => rw [hp r (List.mem_of_find?_eq_some hr)]; simp [spaceNumber, h]
  simp only [cellKey, hs, BitVec.extractLsb'_toNat]
  have := a.isLt
  simp only [Nat.shiftRight_eq_div_pow]
  omega

/-- The bytes of an aligned doubleword share its number (R68). -/
theorem block_add {a : Word} {n : Nat} (h : a.extractLsb' 0 3 = 0#3) (hn : n < 8) :
    (a + BitVec.ofNat 32 n).extractLsb' 3 29 = a.extractLsb' 3 29 := by
  have h := congrArg BitVec.toNat h
  apply BitVec.eq_of_toNat_eq
  simp only [BitVec.extractLsb'_toNat, BitVec.toNat_add, BitVec.toNat_ofNat, Nat.shiftRight_eq_div_pow] at h ⊢
  omega

/-- The bytes of an aligned word share their doubleword. -/
theorem block_add_word {a : Word} {n : Nat} (h : a.extractLsb' 0 2 = 0#2) (hn : n < 4) :
    (a + BitVec.ofNat 32 n).extractLsb' 3 29 = a.extractLsb' 3 29 := by
  have h := congrArg BitVec.toNat h
  apply BitVec.eq_of_toNat_eq
  simp only [BitVec.extractLsb'_toNat, BitVec.toNat_add, BitVec.toNat_ofNat, Nat.shiftRight_eq_div_pow] at h ⊢
  omega

/-- The bytes of an aligned halfword share their doubleword. -/
theorem block_add_half {a : Word} {n : Nat} (h : a.extractLsb' 0 1 = 0#1) (hn : n < 2) :
    (a + BitVec.ofNat 32 n).extractLsb' 3 29 = a.extractLsb' 3 29 := by
  have h := congrArg BitVec.toNat h
  apply BitVec.eq_of_toNat_eq
  simp only [BitVec.extractLsb'_toNat, BitVec.toNat_add, BitVec.toNat_ofNat, Nat.shiftRight_eq_div_pow] at h ⊢
  omega

/-- A cell of consecutive bytes is that of some byte of the run. -/
theorem cellsAt_key {p : List Region} {asi : Asi} {a : Word} {bs : List Byte} {c : Host.Cell}
    (h : c ∈ cellsAt p asi a bs) : ∃ i, i < bs.length ∧ c.1 = cellKey p asi (a + BitVec.ofNat 32 i) := by
  induction bs generalizing a with
  | nil => simp [cellsAt] at h
  | cons b bs ih =>
    rw [cellsAt, List.mem_cons] at h
    rcases h with rfl | h
    · exact ⟨0, by simp, by simp⟩
    · obtain ⟨i, hi, hc⟩ := ih h
      refine ⟨i + 1, by simpa using hi, ?_⟩
      rw [hc, BitVec.add_assoc]
      congr 2
      apply BitVec.eq_of_toNat_eq
      simp [Nat.add_comm]

@[simp] theorem storedBytes_length (z : AccessSize) (v : Word) : (storedBytes z v).length = z.bytes := by
  cases z <;> rfl

/-- A byte outside a stored run reads as before. -/
theorem readCell_store_outside (p : List Region) (m : List Host.Cell) (asi : Asi) (a : Word) (bs : List Byte) (k : Nat)
    (h : ∀ i, i < bs.length → k ≠ cellKey p asi (a + BitVec.ofNat 32 i)) :
    readCell (writeCells m (cellsAt p asi a bs)) k = readCell m k := by
  apply readCell_writeCells_of_notMem
  intro c hc e
  obtain ⟨i, hi, hk⟩ := cellsAt_key hc
  exact h i hi (by rw [← e, hk])

/-- The bytes of a word stored at an aligned address read back (R60). -/
theorem readCell_store_word (p : List Region) (m : List Host.Cell) (asi : Asi) {a : Word} (v : Word)
    (ha : a.extractLsb' 0 2 = 0#2) :
    readCell (writeCells m (cellsAt p asi a (bytesOfWord v))) (cellKey p asi a) = v.extractLsb' 24 8
    ∧ readCell (writeCells m (cellsAt p asi a (bytesOfWord v))) (cellKey p asi (a + 1#32)) = v.extractLsb' 16 8
    ∧ readCell (writeCells m (cellsAt p asi a (bytesOfWord v))) (cellKey p asi (a + 2#32)) = v.extractLsb' 8 8
    ∧ readCell (writeCells m (cellsAt p asi a (bytesOfWord v))) (cellKey p asi (a + 3#32)) = v.extractLsb' 0 8 := by
  have e2 : a + 1#32 + 1#32 = a + 2#32 := by rw [BitVec.add_assoc]; rfl
  have e3 : a + 2#32 + 1#32 = a + 3#32 := by rw [BitVec.add_assoc]; rfl
  have b1 : (a + 1#32).extractLsb' 3 29 = a.extractLsb' 3 29 := block_add_word (n := 1) ha (by decide)
  have b2 : (a + 2#32).extractLsb' 3 29 = a.extractLsb' 3 29 := block_add_word (n := 2) ha (by decide)
  have b3 : (a + 3#32).extractLsb' 3 29 = a.extractLsb' 3 29 := block_add_word (n := 3) ha (by decide)
  simp [bytesOfWord, cellsAt, readCell_writeCell, e2, e3, cellKey_inj, b1, b2, b3]

/-- The word of the four bytes of a word is the word. -/
theorem wordOfBytes_bytesOfWord (v : Word) :
    wordOfBytes (v.extractLsb' 24 8) (v.extractLsb' 16 8) (v.extractLsb' 8 8) (v.extractLsb' 0 8) = v := by
  have h1 : v.extractLsb' 24 8 ++ v.extractLsb' 16 8 = v.extractLsb' 16 16 :=
    BitVec.extractLsb'_append_extractLsb'_eq_extractLsb' (by decide)
  have h2 : v.extractLsb' 16 16 ++ v.extractLsb' 8 8 = v.extractLsb' 8 24 :=
    BitVec.extractLsb'_append_extractLsb'_eq_extractLsb' (by decide)
  have h3 : v.extractLsb' 8 24 ++ v.extractLsb' 0 8 = v.extractLsb' 0 32 :=
    BitVec.extractLsb'_append_extractLsb'_eq_extractLsb' (by decide)
  show v.extractLsb' 24 8 ++ v.extractLsb' 16 8 ++ v.extractLsb' 8 8 ++ v.extractLsb' 0 8 = v
  rw [h1, h2, h3]
  exact BitVec.extractLsb'_eq_self

/-- A word read back after it is stored at an aligned address is the word stored (R60). -/
theorem readValue_store_word (p : List Region) (m : List Host.Cell) (asi : Asi) {a : Word} (v : Word)
    (ha : a.extractLsb' 0 2 = 0#2) : readValue p (writeCells m (cellsAt p asi a (bytesOfWord v))) asi a .word = v := by
  obtain ⟨h0, h1, h2, h3⟩ := readCell_store_word p m asi v ha
  have e0 : a + 0#32 = a := BitVec.add_zero a
  simp only [readValue, e0, h0, h1, h2, h3, wordOfBytes_bytesOfWord]

end Sys2Proof.Machine
end

