-- ==== Sys2Proof/Laws/State.lean ====
section
/-! SUPPORT. What each named update of the state leaves in each field: one lemma per field and update, so that no later
proof unfolds a record update. -/

namespace Sys2Proof.Machine

/-! ### State.drawn -/

@[simp] theorem State.drawn_cfg (s : State) : s.drawn.cfg = s.cfg := rfl
@[simp] theorem State.drawn_platform (s : State) : s.drawn.platform = s.platform := rfl
@[simp] theorem State.drawn_mode (s : State) : s.drawn.mode = s.mode := rfl
@[simp] theorem State.drawn_pc (s : State) : s.drawn.pc = s.pc := rfl
@[simp] theorem State.drawn_npc (s : State) : s.drawn.npc = s.npc := rfl
@[simp] theorem State.drawn_ir (s : State) : s.drawn.ir = s.ir := rfl
@[simp] theorem State.drawn_psr (s : State) : s.drawn.psr = s.psr := rfl
@[simp] theorem State.drawn_wim (s : State) : s.drawn.wim = s.wim := rfl
@[simp] theorem State.drawn_tba (s : State) : s.drawn.tba = s.tba := rfl
@[simp] theorem State.drawn_tt (s : State) : s.drawn.tt = s.tt := rfl
@[simp] theorem State.drawn_y (s : State) : s.drawn.y = s.y := rfl
@[simp] theorem State.drawn_regs (s : State) : s.drawn.regs = s.regs := rfl
@[simp] theorem State.drawn_annulNext (s : State) : s.drawn.annulNext = s.annulNext := rfl
@[simp] theorem State.drawn_condDelay (s : State) : s.drawn.condDelay = s.condDelay := rfl
@[simp] theorem State.drawn_pfcSum (s : State) : s.drawn.pfcSum = s.pfcSum := rfl
@[simp] theorem State.drawn_pfcCheckEnabled (s : State) : s.drawn.pfcCheckEnabled = s.pfcCheckEnabled := rfl
@[simp] theorem State.drawn_fpu (s : State) : s.drawn.fpu = s.fpu := rfl
@[simp] theorem State.drawn_cp (s : State) : s.drawn.cp = s.cp := rfl
@[simp] theorem State.drawn_cpCompare (s : State) : s.drawn.cpCompare = s.cpCompare := rfl
@[simp] theorem State.drawn_hwerror (s : State) : s.drawn.hwerror = s.hwerror := rfl
@[simp] theorem State.drawn_mem (s : State) : s.drawn.mem = s.mem := rfl
@[simp] theorem State.drawn_wrote (s : State) : s.drawn.wrote = s.wrote := rfl
@[simp] theorem State.drawn_recent1 (s : State) : s.drawn.recent1 = s.recent1 := rfl
@[simp] theorem State.drawn_recent2 (s : State) : s.drawn.recent2 = s.recent2 := rfl
@[simp] theorem State.drawn_badLoad (s : State) : s.drawn.badLoad = s.badLoad := rfl
@[simp] theorem State.drawn_pins (s : State) : s.drawn.pins = s.pins := rfl
@[simp] theorem State.drawn_env (s : State) : s.drawn.env = s.env := rfl
@[simp] theorem State.drawn_events (s : State) : s.drawn.events = s.events := rfl
@[simp] theorem State.drawn_draws (s : State) : s.drawn.draws = (s.draws + 1) := rfl

/-! ### State.emit -/

@[simp] theorem State.emit_cfg (s : State) (e : Event) : (s.emit e).cfg = s.cfg := rfl
@[simp] theorem State.emit_platform (s : State) (e : Event) : (s.emit e).platform = s.platform := rfl
@[simp] theorem State.emit_mode (s : State) (e : Event) : (s.emit e).mode = s.mode := rfl
@[simp] theorem State.emit_pc (s : State) (e : Event) : (s.emit e).pc = s.pc := rfl
@[simp] theorem State.emit_npc (s : State) (e : Event) : (s.emit e).npc = s.npc := rfl
@[simp] theorem State.emit_ir (s : State) (e : Event) : (s.emit e).ir = s.ir := rfl
@[simp] theorem State.emit_psr (s : State) (e : Event) : (s.emit e).psr = s.psr := rfl
@[simp] theorem State.emit_wim (s : State) (e : Event) : (s.emit e).wim = s.wim := rfl
@[simp] theorem State.emit_tba (s : State) (e : Event) : (s.emit e).tba = s.tba := rfl
@[simp] theorem State.emit_tt (s : State) (e : Event) : (s.emit e).tt = s.tt := rfl
@[simp] theorem State.emit_y (s : State) (e : Event) : (s.emit e).y = s.y := rfl
@[simp] theorem State.emit_regs (s : State) (e : Event) : (s.emit e).regs = s.regs := rfl
@[simp] theorem State.emit_annulNext (s : State) (e : Event) : (s.emit e).annulNext = s.annulNext := rfl
@[simp] theorem State.emit_condDelay (s : State) (e : Event) : (s.emit e).condDelay = s.condDelay := rfl
@[simp] theorem State.emit_pfcSum (s : State) (e : Event) : (s.emit e).pfcSum = s.pfcSum := rfl
@[simp] theorem State.emit_pfcCheckEnabled (s : State) (e : Event) : (s.emit e).pfcCheckEnabled = s.pfcCheckEnabled :=
  rfl
@[simp] theorem State.emit_fpu (s : State) (e : Event) : (s.emit e).fpu = s.fpu := rfl
@[simp] theorem State.emit_cp (s : State) (e : Event) : (s.emit e).cp = s.cp := rfl
@[simp] theorem State.emit_cpCompare (s : State) (e : Event) : (s.emit e).cpCompare = s.cpCompare := rfl
@[simp] theorem State.emit_hwerror (s : State) (e : Event) : (s.emit e).hwerror = s.hwerror := rfl
@[simp] theorem State.emit_mem (s : State) (e : Event) : (s.emit e).mem = s.mem := rfl
@[simp] theorem State.emit_wrote (s : State) (e : Event) : (s.emit e).wrote = s.wrote := rfl
@[simp] theorem State.emit_recent1 (s : State) (e : Event) : (s.emit e).recent1 = s.recent1 := rfl
@[simp] theorem State.emit_recent2 (s : State) (e : Event) : (s.emit e).recent2 = s.recent2 := rfl
@[simp] theorem State.emit_badLoad (s : State) (e : Event) : (s.emit e).badLoad = s.badLoad := rfl
@[simp] theorem State.emit_pins (s : State) (e : Event) : (s.emit e).pins = s.pins := rfl
@[simp] theorem State.emit_env (s : State) (e : Event) : (s.emit e).env = s.env := rfl
@[simp] theorem State.emit_events (s : State) (e : Event) : (s.emit e).events = (s.events ++ [e]) := rfl
@[simp] theorem State.emit_draws (s : State) (e : Event) : (s.emit e).draws = s.draws := rfl

/-! ### State.retire -/

@[simp] theorem State.retire_cfg (s : State) : s.retire.cfg = s.cfg := rfl
@[simp] theorem State.retire_platform (s : State) : s.retire.platform = s.platform := rfl
@[simp] theorem State.retire_mode (s : State) : s.retire.mode = s.mode := rfl
@[simp] theorem State.retire_pc (s : State) : s.retire.pc = s.pc := rfl
@[simp] theorem State.retire_npc (s : State) : s.retire.npc = s.npc := rfl
@[simp] theorem State.retire_ir (s : State) : s.retire.ir = s.ir := rfl
@[simp] theorem State.retire_psr (s : State) : s.retire.psr = s.psr := rfl
@[simp] theorem State.retire_wim (s : State) : s.retire.wim = s.wim := rfl
@[simp] theorem State.retire_tba (s : State) : s.retire.tba = s.tba := rfl
@[simp] theorem State.retire_tt (s : State) : s.retire.tt = s.tt := rfl
@[simp] theorem State.retire_y (s : State) : s.retire.y = s.y := rfl
@[simp] theorem State.retire_regs (s : State) : s.retire.regs = s.regs := rfl
@[simp] theorem State.retire_annulNext (s : State) : s.retire.annulNext = s.annulNext := rfl
@[simp] theorem State.retire_condDelay (s : State) : s.retire.condDelay = false := rfl
@[simp] theorem State.retire_pfcSum (s : State) :
    s.retire.pfcSum = (if s.cfg.flowEnabled then s.pfcSum ^^^ s.ir else s.pfcSum) :=
  rfl
@[simp] theorem State.retire_pfcCheckEnabled (s : State) : s.retire.pfcCheckEnabled = s.pfcCheckEnabled := rfl
@[simp] theorem State.retire_fpu (s : State) : s.retire.fpu = s.fpu := rfl
@[simp] theorem State.retire_cp (s : State) : s.retire.cp = s.cp := rfl
@[simp] theorem State.retire_cpCompare (s : State) : s.retire.cpCompare = false := rfl
@[simp] theorem State.retire_hwerror (s : State) : s.retire.hwerror = s.hwerror := rfl
@[simp] theorem State.retire_mem (s : State) : s.retire.mem = s.mem := rfl
@[simp] theorem State.retire_wrote (s : State) : s.retire.wrote = [] := rfl
@[simp] theorem State.retire_recent1 (s : State) : s.retire.recent1 = s.wrote := rfl
@[simp] theorem State.retire_recent2 (s : State) : s.retire.recent2 = s.recent1 := rfl
@[simp] theorem State.retire_badLoad (s : State) : s.retire.badLoad = s.badLoad := rfl
@[simp] theorem State.retire_pins (s : State) : s.retire.pins = s.pins := rfl
@[simp] theorem State.retire_env (s : State) : s.retire.env = s.env := rfl
@[simp] theorem State.retire_events (s : State) : s.retire.events = s.events := rfl
@[simp] theorem State.retire_draws (s : State) : s.retire.draws = s.draws := rfl

/-! ### State.advance -/

@[simp] theorem State.advance_cfg (s : State) : s.advance.cfg = s.cfg := rfl
@[simp] theorem State.advance_platform (s : State) : s.advance.platform = s.platform := rfl
@[simp] theorem State.advance_mode (s : State) : s.advance.mode = s.mode := rfl
@[simp] theorem State.advance_pc (s : State) : s.advance.pc = s.npc := rfl
@[simp] theorem State.advance_npc (s : State) : s.advance.npc = (s.npc + 4#32) := rfl
@[simp] theorem State.advance_ir (s : State) : s.advance.ir = s.ir := rfl
@[simp] theorem State.advance_psr (s : State) : s.advance.psr = s.psr := rfl
@[simp] theorem State.advance_wim (s : State) : s.advance.wim = s.wim := rfl
@[simp] theorem State.advance_tba (s : State) : s.advance.tba = s.tba := rfl
@[simp] theorem State.advance_tt (s : State) : s.advance.tt = s.tt := rfl
@[simp] theorem State.advance_y (s : State) : s.advance.y = s.y := rfl
@[simp] theorem State.advance_regs (s : State) : s.advance.regs = s.regs := rfl
@[simp] theorem State.advance_annulNext (s : State) : s.advance.annulNext = s.annulNext := rfl
@[simp] theorem State.advance_condDelay (s : State) : s.advance.condDelay = false := rfl
@[simp] theorem State.advance_pfcSum (s : State) :
    s.advance.pfcSum = (if s.cfg.flowEnabled then s.pfcSum ^^^ s.ir else s.pfcSum) :=
  rfl
@[simp] theorem State.advance_pfcCheckEnabled (s : State) : s.advance.pfcCheckEnabled = s.pfcCheckEnabled := rfl
@[simp] theorem State.advance_fpu (s : State) : s.advance.fpu = s.fpu := rfl
@[simp] theorem State.advance_cp (s : State) : s.advance.cp = s.cp := rfl
@[simp] theorem State.advance_cpCompare (s : State) : s.advance.cpCompare = false := rfl
@[simp] theorem State.advance_hwerror (s : State) : s.advance.hwerror = s.hwerror := rfl
@[simp] theorem State.advance_mem (s : State) : s.advance.mem = s.mem := rfl
@[simp] theorem State.advance_wrote (s : State) : s.advance.wrote = [] := rfl
@[simp] theorem State.advance_recent1 (s : State) : s.advance.recent1 = s.wrote := rfl
@[simp] theorem State.advance_recent2 (s : State) : s.advance.recent2 = s.recent1 := rfl
@[simp] theorem State.advance_badLoad (s : State) : s.advance.badLoad = s.badLoad := rfl
@[simp] theorem State.advance_pins (s : State) : s.advance.pins = s.pins := rfl
@[simp] theorem State.advance_env (s : State) : s.advance.env = s.env := rfl
@[simp] theorem State.advance_events (s : State) : s.advance.events = s.events := rfl
@[simp] theorem State.advance_draws (s : State) : s.advance.draws = s.draws := rfl

/-! ### State.advanceCp -/

@[simp] theorem State.advanceCp_cfg (s : State) : s.advanceCp.cfg = s.cfg := rfl
@[simp] theorem State.advanceCp_platform (s : State) : s.advanceCp.platform = s.platform := rfl
@[simp] theorem State.advanceCp_mode (s : State) : s.advanceCp.mode = s.mode := rfl
@[simp] theorem State.advanceCp_pc (s : State) : s.advanceCp.pc = s.npc := rfl
@[simp] theorem State.advanceCp_npc (s : State) : s.advanceCp.npc = (s.npc + 4#32) := rfl
@[simp] theorem State.advanceCp_ir (s : State) : s.advanceCp.ir = s.ir := rfl
@[simp] theorem State.advanceCp_psr (s : State) : s.advanceCp.psr = s.psr := rfl
@[simp] theorem State.advanceCp_wim (s : State) : s.advanceCp.wim = s.wim := rfl
@[simp] theorem State.advanceCp_tba (s : State) : s.advanceCp.tba = s.tba := rfl
@[simp] theorem State.advanceCp_tt (s : State) : s.advanceCp.tt = s.tt := rfl
@[simp] theorem State.advanceCp_y (s : State) : s.advanceCp.y = s.y := rfl
@[simp] theorem State.advanceCp_regs (s : State) : s.advanceCp.regs = s.regs := rfl
@[simp] theorem State.advanceCp_annulNext (s : State) : s.advanceCp.annulNext = s.annulNext := rfl
@[simp] theorem State.advanceCp_condDelay (s : State) : s.advanceCp.condDelay = false := rfl
@[simp] theorem State.advanceCp_pfcSum (s : State) :
    s.advanceCp.pfcSum = (if s.cfg.flowEnabled then s.pfcSum ^^^ s.ir else s.pfcSum) :=
  rfl
@[simp] theorem State.advanceCp_pfcCheckEnabled (s : State) : s.advanceCp.pfcCheckEnabled = s.pfcCheckEnabled := rfl
@[simp] theorem State.advanceCp_fpu (s : State) : s.advanceCp.fpu = s.fpu := rfl
@[simp] theorem State.advanceCp_cp (s : State) : s.advanceCp.cp = s.cp := rfl
@[simp] theorem State.advanceCp_cpCompare (s : State) : s.advanceCp.cpCompare = s.cpCompare := rfl
@[simp] theorem State.advanceCp_hwerror (s : State) : s.advanceCp.hwerror = s.hwerror := rfl
@[simp] theorem State.advanceCp_mem (s : State) : s.advanceCp.mem = s.mem := rfl
@[simp] theorem State.advanceCp_wrote (s : State) : s.advanceCp.wrote = [] := rfl
@[simp] theorem State.advanceCp_recent1 (s : State) : s.advanceCp.recent1 = s.wrote := rfl
@[simp] theorem State.advanceCp_recent2 (s : State) : s.advanceCp.recent2 = s.recent1 := rfl
@[simp] theorem State.advanceCp_badLoad (s : State) : s.advanceCp.badLoad = s.badLoad := rfl
@[simp] theorem State.advanceCp_pins (s : State) : s.advanceCp.pins = s.pins := rfl
@[simp] theorem State.advanceCp_env (s : State) : s.advanceCp.env = s.env := rfl
@[simp] theorem State.advanceCp_events (s : State) : s.advanceCp.events = s.events := rfl
@[simp] theorem State.advanceCp_draws (s : State) : s.advanceCp.draws = s.draws := rfl

/-! ### State.transfer -/

@[simp] theorem State.transfer_cfg (s : State) (a : Word) : (s.transfer a).cfg = s.cfg := rfl
@[simp] theorem State.transfer_platform (s : State) (a : Word) : (s.transfer a).platform = s.platform := rfl
@[simp] theorem State.transfer_mode (s : State) (a : Word) : (s.transfer a).mode = s.mode := rfl
@[simp] theorem State.transfer_pc (s : State) (a : Word) : (s.transfer a).pc = s.npc := rfl
@[simp] theorem State.transfer_npc (s : State) (a : Word) :
    (s.transfer a).npc = (if s.condDelay then Config.freeTarget s.draws ++ 0#2 else a) :=
  rfl
@[simp] theorem State.transfer_ir (s : State) (a : Word) : (s.transfer a).ir = s.ir := rfl
@[simp] theorem State.transfer_psr (s : State) (a : Word) : (s.transfer a).psr = s.psr := rfl
@[simp] theorem State.transfer_wim (s : State) (a : Word) : (s.transfer a).wim = s.wim := rfl
@[simp] theorem State.transfer_tba (s : State) (a : Word) : (s.transfer a).tba = s.tba := rfl
@[simp] theorem State.transfer_tt (s : State) (a : Word) : (s.transfer a).tt = s.tt := rfl
@[simp] theorem State.transfer_y (s : State) (a : Word) : (s.transfer a).y = s.y := rfl
@[simp] theorem State.transfer_regs (s : State) (a : Word) : (s.transfer a).regs = s.regs := rfl
@[simp] theorem State.transfer_annulNext (s : State) (a : Word) : (s.transfer a).annulNext = s.annulNext := rfl
@[simp] theorem State.transfer_condDelay (s : State) (a : Word) : (s.transfer a).condDelay = false := rfl
@[simp] theorem State.transfer_pfcSum (s : State) (a : Word) :
    (s.transfer a).pfcSum = (if s.cfg.flowEnabled then s.pfcSum ^^^ s.ir else s.pfcSum) :=
  rfl
@[simp] theorem State.transfer_pfcCheckEnabled (s : State) (a : Word) :
    (s.transfer a).pfcCheckEnabled = s.pfcCheckEnabled :=
  rfl
@[simp] theorem State.transfer_fpu (s : State) (a : Word) : (s.transfer a).fpu = s.fpu := rfl
@[simp] theorem State.transfer_cp (s : State) (a : Word) : (s.transfer a).cp = s.cp := rfl
@[simp] theorem State.transfer_cpCompare (s : State) (a : Word) : (s.transfer a).cpCompare = false := rfl
@[simp] theorem State.transfer_hwerror (s : State) (a : Word) : (s.transfer a).hwerror = s.hwerror := rfl
@[simp] theorem State.transfer_mem (s : State) (a : Word) : (s.transfer a).mem = s.mem := rfl
@[simp] theorem State.transfer_wrote (s : State) (a : Word) : (s.transfer a).wrote = [] := rfl
@[simp] theorem State.transfer_recent1 (s : State) (a : Word) : (s.transfer a).recent1 = s.wrote := rfl
@[simp] theorem State.transfer_recent2 (s : State) (a : Word) : (s.transfer a).recent2 = s.recent1 := rfl
@[simp] theorem State.transfer_badLoad (s : State) (a : Word) : (s.transfer a).badLoad = s.badLoad := rfl
@[simp] theorem State.transfer_pins (s : State) (a : Word) : (s.transfer a).pins = s.pins := rfl
@[simp] theorem State.transfer_env (s : State) (a : Word) : (s.transfer a).env = s.env := rfl
@[simp] theorem State.transfer_events (s : State) (a : Word) : (s.transfer a).events = s.events := rfl
@[simp] theorem State.transfer_draws (s : State) (a : Word) :
    (s.transfer a).draws = (if s.condDelay then s.draws + 1 else s.draws) :=
  rfl

/-! ### State.setRegIn -/

@[simp] theorem State.setRegIn_cfg (s : State) (w : BitVec 3) (i : Reg) (v : Word) : (s.setRegIn w i v).cfg = s.cfg :=
  by unfold State.setRegIn; split <;> rfl
@[simp] theorem State.setRegIn_platform (s : State) (w : BitVec 3) (i : Reg) (v : Word) :
    (s.setRegIn w i v).platform = s.platform :=
  by unfold State.setRegIn; split <;> rfl
@[simp] theorem State.setRegIn_mode (s : State) (w : BitVec 3) (i : Reg) (v : Word) :
    (s.setRegIn w i v).mode = s.mode :=
  by unfold State.setRegIn; split <;> rfl
@[simp] theorem State.setRegIn_pc (s : State) (w : BitVec 3) (i : Reg) (v : Word) : (s.setRegIn w i v).pc = s.pc :=
  by unfold State.setRegIn; split <;> rfl
@[simp] theorem State.setRegIn_npc (s : State) (w : BitVec 3) (i : Reg) (v : Word) : (s.setRegIn w i v).npc = s.npc :=
  by unfold State.setRegIn; split <;> rfl
@[simp] theorem State.setRegIn_ir (s : State) (w : BitVec 3) (i : Reg) (v : Word) : (s.setRegIn w i v).ir = s.ir :=
  by unfold State.setRegIn; split <;> rfl
@[simp] theorem State.setRegIn_psr (s : State) (w : BitVec 3) (i : Reg) (v : Word) : (s.setRegIn w i v).psr = s.psr :=
  by unfold State.setRegIn; split <;> rfl
@[simp] theorem State.setRegIn_wim (s : State) (w : BitVec 3) (i : Reg) (v : Word) : (s.setRegIn w i v).wim = s.wim :=
  by unfold State.setRegIn; split <;> rfl
@[simp] theorem State.setRegIn_tba (s : State) (w : BitVec 3) (i : Reg) (v : Word) : (s.setRegIn w i v).tba = s.tba :=
  by unfold State.setRegIn; split <;> rfl
@[simp] theorem State.setRegIn_tt (s : State) (w : BitVec 3) (i : Reg) (v : Word) : (s.setRegIn w i v).tt = s.tt :=
  by unfold State.setRegIn; split <;> rfl
@[simp] theorem State.setRegIn_y (s : State) (w : BitVec 3) (i : Reg) (v : Word) : (s.setRegIn w i v).y = s.y :=
  by unfold State.setRegIn; split <;> rfl
@[simp] theorem State.setRegIn_annulNext (s : State) (w : BitVec 3) (i : Reg) (v : Word) :
    (s.setRegIn w i v).annulNext = s.annulNext :=
  by unfold State.setRegIn; split <;> rfl
@[simp] theorem State.setRegIn_condDelay (s : State) (w : BitVec 3) (i : Reg) (v : Word) :
    (s.setRegIn w i v).condDelay = s.condDelay :=
  by unfold State.setRegIn; split <;> rfl
@[simp] theorem State.setRegIn_pfcSum (s : State) (w : BitVec 3) (i : Reg) (v : Word) :
    (s.setRegIn w i v).pfcSum = s.pfcSum :=
  by unfold State.setRegIn; split <;> rfl
@[simp] theorem State.setRegIn_pfcCheckEnabled (s : State) (w : BitVec 3) (i : Reg) (v : Word) :
    (s.setRegIn w i v).pfcCheckEnabled = s.pfcCheckEnabled :=
  by unfold State.setRegIn; split <;> rfl
@[simp] theorem State.setRegIn_fpu (s : State) (w : BitVec 3) (i : Reg) (v : Word) : (s.setRegIn w i v).fpu = s.fpu :=
  by unfold State.setRegIn; split <;> rfl
@[simp] theorem State.setRegIn_cp (s : State) (w : BitVec 3) (i : Reg) (v : Word) : (s.setRegIn w i v).cp = s.cp :=
  by unfold State.setRegIn; split <;> rfl
@[simp] theorem State.setRegIn_cpCompare (s : State) (w : BitVec 3) (i : Reg) (v : Word) :
    (s.setRegIn w i v).cpCompare = s.cpCompare :=
  by unfold State.setRegIn; split <;> rfl
@[simp] theorem State.setRegIn_hwerror (s : State) (w : BitVec 3) (i : Reg) (v : Word) :
    (s.setRegIn w i v).hwerror = s.hwerror :=
  by unfold State.setRegIn; split <;> rfl
@[simp] theorem State.setRegIn_mem (s : State) (w : BitVec 3) (i : Reg) (v : Word) : (s.setRegIn w i v).mem = s.mem :=
  by unfold State.setRegIn; split <;> rfl
@[simp] theorem State.setRegIn_wrote (s : State) (w : BitVec 3) (i : Reg) (v : Word) :
    (s.setRegIn w i v).wrote = s.wrote :=
  by unfold State.setRegIn; split <;> rfl
@[simp] theorem State.setRegIn_recent1 (s : State) (w : BitVec 3) (i : Reg) (v : Word) :
    (s.setRegIn w i v).recent1 = s.recent1 :=
  by unfold State.setRegIn; split <;> rfl
@[simp] theorem State.setRegIn_recent2 (s : State) (w : BitVec 3) (i : Reg) (v : Word) :
    (s.setRegIn w i v).recent2 = s.recent2 :=
  by unfold State.setRegIn; split <;> rfl
@[simp] theorem State.setRegIn_badLoad (s : State) (w : BitVec 3) (i : Reg) (v : Word) :
    (s.setRegIn w i v).badLoad = s.badLoad :=
  by unfold State.setRegIn; split <;> rfl
@[simp] theorem State.setRegIn_pins (s : State) (w : BitVec 3) (i : Reg) (v : Word) :
    (s.setRegIn w i v).pins = s.pins :=
  by unfold State.setRegIn; split <;> rfl
@[simp] theorem State.setRegIn_env (s : State) (w : BitVec 3) (i : Reg) (v : Word) : (s.setRegIn w i v).env = s.env :=
  by unfold State.setRegIn; split <;> rfl
@[simp] theorem State.setRegIn_events (s : State) (w : BitVec 3) (i : Reg) (v : Word) :
    (s.setRegIn w i v).events = s.events :=
  by unfold State.setRegIn; split <;> rfl
@[simp] theorem State.setRegIn_draws (s : State) (w : BitVec 3) (i : Reg) (v : Word) :
    (s.setRegIn w i v).draws = s.draws :=
  by unfold State.setRegIn; split <;> rfl

/-! ### State.setReg -/

@[simp] theorem State.setReg_cfg (s : State) (i : Reg) (v : Word) : (s.setReg i v).cfg = s.cfg :=
  State.setRegIn_cfg s _ i v
@[simp] theorem State.setReg_platform (s : State) (i : Reg) (v : Word) : (s.setReg i v).platform = s.platform :=
  State.setRegIn_platform s _ i v
@[simp] theorem State.setReg_mode (s : State) (i : Reg) (v : Word) : (s.setReg i v).mode = s.mode :=
  State.setRegIn_mode s _ i v
@[simp] theorem State.setReg_pc (s : State) (i : Reg) (v : Word) : (s.setReg i v).pc = s.pc :=
  State.setRegIn_pc s _ i v
@[simp] theorem State.setReg_npc (s : State) (i : Reg) (v : Word) : (s.setReg i v).npc = s.npc :=
  State.setRegIn_npc s _ i v
@[simp] theorem State.setReg_ir (s : State) (i : Reg) (v : Word) : (s.setReg i v).ir = s.ir :=
  State.setRegIn_ir s _ i v
@[simp] theorem State.setReg_psr (s : State) (i : Reg) (v : Word) : (s.setReg i v).psr = s.psr :=
  State.setRegIn_psr s _ i v
@[simp] theorem State.setReg_wim (s : State) (i : Reg) (v : Word) : (s.setReg i v).wim = s.wim :=
  State.setRegIn_wim s _ i v
@[simp] theorem State.setReg_tba (s : State) (i : Reg) (v : Word) : (s.setReg i v).tba = s.tba :=
  State.setRegIn_tba s _ i v
@[simp] theorem State.setReg_tt (s : State) (i : Reg) (v : Word) : (s.setReg i v).tt = s.tt :=
  State.setRegIn_tt s _ i v
@[simp] theorem State.setReg_y (s : State) (i : Reg) (v : Word) : (s.setReg i v).y = s.y := State.setRegIn_y s _ i v
@[simp] theorem State.setReg_annulNext (s : State) (i : Reg) (v : Word) : (s.setReg i v).annulNext = s.annulNext :=
  State.setRegIn_annulNext s _ i v
@[simp] theorem State.setReg_condDelay (s : State) (i : Reg) (v : Word) : (s.setReg i v).condDelay = s.condDelay :=
  State.setRegIn_condDelay s _ i v
@[simp] theorem State.setReg_pfcSum (s : State) (i : Reg) (v : Word) : (s.setReg i v).pfcSum = s.pfcSum :=
  State.setRegIn_pfcSum s _ i v
@[simp] theorem State.setReg_pfcCheckEnabled (s : State) (i : Reg) (v : Word) :
    (s.setReg i v).pfcCheckEnabled = s.pfcCheckEnabled :=
  State.setRegIn_pfcCheckEnabled s _ i v
@[simp] theorem State.setReg_fpu (s : State) (i : Reg) (v : Word) : (s.setReg i v).fpu = s.fpu :=
  State.setRegIn_fpu s _ i v
@[simp] theorem State.setReg_cp (s : State) (i : Reg) (v : Word) : (s.setReg i v).cp = s.cp :=
  State.setRegIn_cp s _ i v
@[simp] theorem State.setReg_cpCompare (s : State) (i : Reg) (v : Word) : (s.setReg i v).cpCompare = s.cpCompare :=
  State.setRegIn_cpCompare s _ i v
@[simp] theorem State.setReg_hwerror (s : State) (i : Reg) (v : Word) : (s.setReg i v).hwerror = s.hwerror :=
  State.setRegIn_hwerror s _ i v
@[simp] theorem State.setReg_mem (s : State) (i : Reg) (v : Word) : (s.setReg i v).mem = s.mem :=
  State.setRegIn_mem s _ i v
@[simp] theorem State.setReg_wrote (s : State) (i : Reg) (v : Word) : (s.setReg i v).wrote = s.wrote :=
  State.setRegIn_wrote s _ i v
@[simp] theorem State.setReg_recent1 (s : State) (i : Reg) (v : Word) : (s.setReg i v).recent1 = s.recent1 :=
  State.setRegIn_recent1 s _ i v
@[simp] theorem State.setReg_recent2 (s : State) (i : Reg) (v : Word) : (s.setReg i v).recent2 = s.recent2 :=
  State.setRegIn_recent2 s _ i v
@[simp] theorem State.setReg_badLoad (s : State) (i : Reg) (v : Word) : (s.setReg i v).badLoad = s.badLoad :=
  State.setRegIn_badLoad s _ i v
@[simp] theorem State.setReg_pins (s : State) (i : Reg) (v : Word) : (s.setReg i v).pins = s.pins :=
  State.setRegIn_pins s _ i v
@[simp] theorem State.setReg_env (s : State) (i : Reg) (v : Word) : (s.setReg i v).env = s.env :=
  State.setRegIn_env s _ i v
@[simp] theorem State.setReg_events (s : State) (i : Reg) (v : Word) : (s.setReg i v).events = s.events :=
  State.setRegIn_events s _ i v
@[simp] theorem State.setReg_draws (s : State) (i : Reg) (v : Word) : (s.setReg i v).draws = s.draws :=
  State.setRegIn_draws s _ i v

/-! ### State.setIcc -/

@[simp] theorem State.setIcc_cfg (s : State) (f : Icc) : (s.setIcc f).cfg = s.cfg := rfl
@[simp] theorem State.setIcc_platform (s : State) (f : Icc) : (s.setIcc f).platform = s.platform := rfl
@[simp] theorem State.setIcc_mode (s : State) (f : Icc) : (s.setIcc f).mode = s.mode := rfl
@[simp] theorem State.setIcc_pc (s : State) (f : Icc) : (s.setIcc f).pc = s.pc := rfl
@[simp] theorem State.setIcc_npc (s : State) (f : Icc) : (s.setIcc f).npc = s.npc := rfl
@[simp] theorem State.setIcc_ir (s : State) (f : Icc) : (s.setIcc f).ir = s.ir := rfl
@[simp] theorem State.setIcc_psr (s : State) (f : Icc) : (s.setIcc f).psr = ({ s.psr with icc := f }) := rfl
@[simp] theorem State.setIcc_wim (s : State) (f : Icc) : (s.setIcc f).wim = s.wim := rfl
@[simp] theorem State.setIcc_tba (s : State) (f : Icc) : (s.setIcc f).tba = s.tba := rfl
@[simp] theorem State.setIcc_tt (s : State) (f : Icc) : (s.setIcc f).tt = s.tt := rfl
@[simp] theorem State.setIcc_y (s : State) (f : Icc) : (s.setIcc f).y = s.y := rfl
@[simp] theorem State.setIcc_regs (s : State) (f : Icc) : (s.setIcc f).regs = s.regs := rfl
@[simp] theorem State.setIcc_annulNext (s : State) (f : Icc) : (s.setIcc f).annulNext = s.annulNext := rfl
@[simp] theorem State.setIcc_condDelay (s : State) (f : Icc) : (s.setIcc f).condDelay = s.condDelay := rfl
@[simp] theorem State.setIcc_pfcSum (s : State) (f : Icc) : (s.setIcc f).pfcSum = s.pfcSum := rfl
@[simp] theorem State.setIcc_pfcCheckEnabled (s : State) (f : Icc) :
    (s.setIcc f).pfcCheckEnabled = s.pfcCheckEnabled :=
  rfl
@[simp] theorem State.setIcc_fpu (s : State) (f : Icc) : (s.setIcc f).fpu = s.fpu := rfl
@[simp] theorem State.setIcc_cp (s : State) (f : Icc) : (s.setIcc f).cp = s.cp := rfl
@[simp] theorem State.setIcc_cpCompare (s : State) (f : Icc) : (s.setIcc f).cpCompare = s.cpCompare := rfl
@[simp] theorem State.setIcc_hwerror (s : State) (f : Icc) : (s.setIcc f).hwerror = s.hwerror := rfl
@[simp] theorem State.setIcc_mem (s : State) (f : Icc) : (s.setIcc f).mem = s.mem := rfl
@[simp] theorem State.setIcc_wrote (s : State) (f : Icc) : (s.setIcc f).wrote = s.wrote := rfl
@[simp] theorem State.setIcc_recent1 (s : State) (f : Icc) : (s.setIcc f).recent1 = s.recent1 := rfl
@[simp] theorem State.setIcc_recent2 (s : State) (f : Icc) : (s.setIcc f).recent2 = s.recent2 := rfl
@[simp] theorem State.setIcc_badLoad (s : State) (f : Icc) : (s.setIcc f).badLoad = s.badLoad := rfl
@[simp] theorem State.setIcc_pins (s : State) (f : Icc) : (s.setIcc f).pins = s.pins := rfl
@[simp] theorem State.setIcc_env (s : State) (f : Icc) : (s.setIcc f).env = s.env := rfl
@[simp] theorem State.setIcc_events (s : State) (f : Icc) : (s.setIcc f).events = s.events := rfl
@[simp] theorem State.setIcc_draws (s : State) (f : Icc) : (s.setIcc f).draws = s.draws := rfl

/-! ### State.popAnswer -/

@[simp] theorem State.popAnswer_cfg (s : State) : s.popAnswer.cfg = s.cfg := rfl
@[simp] theorem State.popAnswer_platform (s : State) : s.popAnswer.platform = s.platform := rfl
@[simp] theorem State.popAnswer_mode (s : State) : s.popAnswer.mode = s.mode := rfl
@[simp] theorem State.popAnswer_pc (s : State) : s.popAnswer.pc = s.pc := rfl
@[simp] theorem State.popAnswer_npc (s : State) : s.popAnswer.npc = s.npc := rfl
@[simp] theorem State.popAnswer_ir (s : State) : s.popAnswer.ir = s.ir := rfl
@[simp] theorem State.popAnswer_psr (s : State) : s.popAnswer.psr = s.psr := rfl
@[simp] theorem State.popAnswer_wim (s : State) : s.popAnswer.wim = s.wim := rfl
@[simp] theorem State.popAnswer_tba (s : State) : s.popAnswer.tba = s.tba := rfl
@[simp] theorem State.popAnswer_tt (s : State) : s.popAnswer.tt = s.tt := rfl
@[simp] theorem State.popAnswer_y (s : State) : s.popAnswer.y = s.y := rfl
@[simp] theorem State.popAnswer_regs (s : State) : s.popAnswer.regs = s.regs := rfl
@[simp] theorem State.popAnswer_annulNext (s : State) : s.popAnswer.annulNext = s.annulNext := rfl
@[simp] theorem State.popAnswer_condDelay (s : State) : s.popAnswer.condDelay = s.condDelay := rfl
@[simp] theorem State.popAnswer_pfcSum (s : State) : s.popAnswer.pfcSum = s.pfcSum := rfl
@[simp] theorem State.popAnswer_pfcCheckEnabled (s : State) : s.popAnswer.pfcCheckEnabled = s.pfcCheckEnabled := rfl
@[simp] theorem State.popAnswer_fpu (s : State) : s.popAnswer.fpu = s.fpu := rfl
@[simp] theorem State.popAnswer_cp (s : State) : s.popAnswer.cp = s.cp := rfl
@[simp] theorem State.popAnswer_cpCompare (s : State) : s.popAnswer.cpCompare = s.cpCompare := rfl
@[simp] theorem State.popAnswer_hwerror (s : State) : s.popAnswer.hwerror = s.hwerror := rfl
@[simp] theorem State.popAnswer_mem (s : State) : s.popAnswer.mem = s.mem := rfl
@[simp] theorem State.popAnswer_wrote (s : State) : s.popAnswer.wrote = s.wrote := rfl
@[simp] theorem State.popAnswer_recent1 (s : State) : s.popAnswer.recent1 = s.recent1 := rfl
@[simp] theorem State.popAnswer_recent2 (s : State) : s.popAnswer.recent2 = s.recent2 := rfl
@[simp] theorem State.popAnswer_badLoad (s : State) : s.popAnswer.badLoad = s.badLoad := rfl
@[simp] theorem State.popAnswer_pins (s : State) :
    s.popAnswer.pins = ({ s.pins with dataAnswers := s.pins.dataAnswers.tail }) :=
  rfl
@[simp] theorem State.popAnswer_env (s : State) : s.popAnswer.env = s.env := rfl
@[simp] theorem State.popAnswer_events (s : State) : s.popAnswer.events = s.events := rfl
@[simp] theorem State.popAnswer_draws (s : State) : s.popAnswer.draws = s.draws := rfl

/-! ### State.storeBytes -/

@[simp] theorem State.storeBytes_cfg (s : State) (asi : Asi) (a : Word) (z : AccessSize) (v : Word) :
    (s.storeBytes asi a z v).cfg = s.cfg :=
  rfl
@[simp] theorem State.storeBytes_platform (s : State) (asi : Asi) (a : Word) (z : AccessSize) (v : Word) :
    (s.storeBytes asi a z v).platform = s.platform :=
  rfl
@[simp] theorem State.storeBytes_mode (s : State) (asi : Asi) (a : Word) (z : AccessSize) (v : Word) :
    (s.storeBytes asi a z v).mode = s.mode :=
  rfl
@[simp] theorem State.storeBytes_pc (s : State) (asi : Asi) (a : Word) (z : AccessSize) (v : Word) :
    (s.storeBytes asi a z v).pc = s.pc :=
  rfl
@[simp] theorem State.storeBytes_npc (s : State) (asi : Asi) (a : Word) (z : AccessSize) (v : Word) :
    (s.storeBytes asi a z v).npc = s.npc :=
  rfl
@[simp] theorem State.storeBytes_ir (s : State) (asi : Asi) (a : Word) (z : AccessSize) (v : Word) :
    (s.storeBytes asi a z v).ir = s.ir :=
  rfl
@[simp] theorem State.storeBytes_psr (s : State) (asi : Asi) (a : Word) (z : AccessSize) (v : Word) :
    (s.storeBytes asi a z v).psr = s.psr :=
  rfl
@[simp] theorem State.storeBytes_wim (s : State) (asi : Asi) (a : Word) (z : AccessSize) (v : Word) :
    (s.storeBytes asi a z v).wim = s.wim :=
  rfl
@[simp] theorem State.storeBytes_tba (s : State) (asi : Asi) (a : Word) (z : AccessSize) (v : Word) :
    (s.storeBytes asi a z v).tba = s.tba :=
  rfl
@[simp] theorem State.storeBytes_tt (s : State) (asi : Asi) (a : Word) (z : AccessSize) (v : Word) :
    (s.storeBytes asi a z v).tt = s.tt :=
  rfl
@[simp] theorem State.storeBytes_y (s : State) (asi : Asi) (a : Word) (z : AccessSize) (v : Word) :
    (s.storeBytes asi a z v).y = s.y :=
  rfl
@[simp] theorem State.storeBytes_regs (s : State) (asi : Asi) (a : Word) (z : AccessSize) (v : Word) :
    (s.storeBytes asi a z v).regs = s.regs :=
  rfl
@[simp] theorem State.storeBytes_annulNext (s : State) (asi : Asi) (a : Word) (z : AccessSize) (v : Word) :
    (s.storeBytes asi a z v).annulNext = s.annulNext :=
  rfl
@[simp] theorem State.storeBytes_condDelay (s : State) (asi : Asi) (a : Word) (z : AccessSize) (v : Word) :
    (s.storeBytes asi a z v).condDelay = s.condDelay :=
  rfl
@[simp] theorem State.storeBytes_pfcSum (s : State) (asi : Asi) (a : Word) (z : AccessSize) (v : Word) :
    (s.storeBytes asi a z v).pfcSum = s.pfcSum :=
  rfl
@[simp] theorem State.storeBytes_pfcCheckEnabled (s : State) (asi : Asi) (a : Word) (z : AccessSize) (v : Word) :
    (s.storeBytes asi a z v).pfcCheckEnabled = s.pfcCheckEnabled :=
  rfl
@[simp] theorem State.storeBytes_fpu (s : State) (asi : Asi) (a : Word) (z : AccessSize) (v : Word) :
    (s.storeBytes asi a z v).fpu = s.fpu :=
  rfl
@[simp] theorem State.storeBytes_cp (s : State) (asi : Asi) (a : Word) (z : AccessSize) (v : Word) :
    (s.storeBytes asi a z v).cp = s.cp :=
  rfl
@[simp] theorem State.storeBytes_cpCompare (s : State) (asi : Asi) (a : Word) (z : AccessSize) (v : Word) :
    (s.storeBytes asi a z v).cpCompare = s.cpCompare :=
  rfl
@[simp] theorem State.storeBytes_hwerror (s : State) (asi : Asi) (a : Word) (z : AccessSize) (v : Word) :
    (s.storeBytes asi a z v).hwerror = s.hwerror :=
  rfl
@[simp] theorem State.storeBytes_mem (s : State) (asi : Asi) (a : Word) (z : AccessSize) (v : Word) :
    (s.storeBytes asi a z v).mem = (writeCells s.mem (cellsAt s.platform asi a (storedBytes z v))) :=
  rfl
@[simp] theorem State.storeBytes_wrote (s : State) (asi : Asi) (a : Word) (z : AccessSize) (v : Word) :
    (s.storeBytes asi a z v).wrote = ((cellsAt s.platform asi a (storedBytes z v)).map (fun c => (c.1, readCell s.mem c.1)) ++ s.wrote) :=
  rfl
@[simp] theorem State.storeBytes_recent1 (s : State) (asi : Asi) (a : Word) (z : AccessSize) (v : Word) :
    (s.storeBytes asi a z v).recent1 = s.recent1 :=
  rfl
@[simp] theorem State.storeBytes_recent2 (s : State) (asi : Asi) (a : Word) (z : AccessSize) (v : Word) :
    (s.storeBytes asi a z v).recent2 = s.recent2 :=
  rfl
@[simp] theorem State.storeBytes_badLoad (s : State) (asi : Asi) (a : Word) (z : AccessSize) (v : Word) :
    (s.storeBytes asi a z v).badLoad = s.badLoad :=
  rfl
@[simp] theorem State.storeBytes_pins (s : State) (asi : Asi) (a : Word) (z : AccessSize) (v : Word) :
    (s.storeBytes asi a z v).pins = s.pins :=
  rfl
@[simp] theorem State.storeBytes_env (s : State) (asi : Asi) (a : Word) (z : AccessSize) (v : Word) :
    (s.storeBytes asi a z v).env = s.env :=
  rfl
@[simp] theorem State.storeBytes_events (s : State) (asi : Asi) (a : Word) (z : AccessSize) (v : Word) :
    (s.storeBytes asi a z v).events = s.events :=
  rfl
@[simp] theorem State.storeBytes_draws (s : State) (asi : Asi) (a : Word) (z : AccessSize) (v : Word) :
    (s.storeBytes asi a z v).draws = s.draws :=
  rfl

/-! ### State.setFreg -/

@[simp] theorem State.setFreg_cfg (s : State) (r : Reg) (v : Word) : (s.setFreg r v).cfg = s.cfg := rfl
@[simp] theorem State.setFreg_platform (s : State) (r : Reg) (v : Word) : (s.setFreg r v).platform = s.platform := rfl
@[simp] theorem State.setFreg_mode (s : State) (r : Reg) (v : Word) : (s.setFreg r v).mode = s.mode := rfl
@[simp] theorem State.setFreg_pc (s : State) (r : Reg) (v : Word) : (s.setFreg r v).pc = s.pc := rfl
@[simp] theorem State.setFreg_npc (s : State) (r : Reg) (v : Word) : (s.setFreg r v).npc = s.npc := rfl
@[simp] theorem State.setFreg_ir (s : State) (r : Reg) (v : Word) : (s.setFreg r v).ir = s.ir := rfl
@[simp] theorem State.setFreg_psr (s : State) (r : Reg) (v : Word) : (s.setFreg r v).psr = s.psr := rfl
@[simp] theorem State.setFreg_wim (s : State) (r : Reg) (v : Word) : (s.setFreg r v).wim = s.wim := rfl
@[simp] theorem State.setFreg_tba (s : State) (r : Reg) (v : Word) : (s.setFreg r v).tba = s.tba := rfl
@[simp] theorem State.setFreg_tt (s : State) (r : Reg) (v : Word) : (s.setFreg r v).tt = s.tt := rfl
@[simp] theorem State.setFreg_y (s : State) (r : Reg) (v : Word) : (s.setFreg r v).y = s.y := rfl
@[simp] theorem State.setFreg_regs (s : State) (r : Reg) (v : Word) : (s.setFreg r v).regs = s.regs := rfl
@[simp] theorem State.setFreg_annulNext (s : State) (r : Reg) (v : Word) : (s.setFreg r v).annulNext = s.annulNext :=
  rfl
@[simp] theorem State.setFreg_condDelay (s : State) (r : Reg) (v : Word) : (s.setFreg r v).condDelay = s.condDelay :=
  rfl
@[simp] theorem State.setFreg_pfcSum (s : State) (r : Reg) (v : Word) : (s.setFreg r v).pfcSum = s.pfcSum := rfl
@[simp] theorem State.setFreg_pfcCheckEnabled (s : State) (r : Reg) (v : Word) :
    (s.setFreg r v).pfcCheckEnabled = s.pfcCheckEnabled :=
  rfl
@[simp] theorem State.setFreg_fpu (s : State) (r : Reg) (v : Word) :
    (s.setFreg r v).fpu = ({ s.fpu with f := s.fpu.f.set r.toNat v r.isLt }) :=
  rfl
@[simp] theorem State.setFreg_cp (s : State) (r : Reg) (v : Word) : (s.setFreg r v).cp = s.cp := rfl
@[simp] theorem State.setFreg_cpCompare (s : State) (r : Reg) (v : Word) : (s.setFreg r v).cpCompare = s.cpCompare :=
  rfl
@[simp] theorem State.setFreg_hwerror (s : State) (r : Reg) (v : Word) : (s.setFreg r v).hwerror = s.hwerror := rfl
@[simp] theorem State.setFreg_mem (s : State) (r : Reg) (v : Word) : (s.setFreg r v).mem = s.mem := rfl
@[simp] theorem State.setFreg_wrote (s : State) (r : Reg) (v : Word) : (s.setFreg r v).wrote = s.wrote := rfl
@[simp] theorem State.setFreg_recent1 (s : State) (r : Reg) (v : Word) : (s.setFreg r v).recent1 = s.recent1 := rfl
@[simp] theorem State.setFreg_recent2 (s : State) (r : Reg) (v : Word) : (s.setFreg r v).recent2 = s.recent2 := rfl
@[simp] theorem State.setFreg_badLoad (s : State) (r : Reg) (v : Word) : (s.setFreg r v).badLoad = s.badLoad := rfl
@[simp] theorem State.setFreg_pins (s : State) (r : Reg) (v : Word) : (s.setFreg r v).pins = s.pins := rfl
@[simp] theorem State.setFreg_env (s : State) (r : Reg) (v : Word) : (s.setFreg r v).env = s.env := rfl
@[simp] theorem State.setFreg_events (s : State) (r : Reg) (v : Word) : (s.setFreg r v).events = s.events := rfl
@[simp] theorem State.setFreg_draws (s : State) (r : Reg) (v : Word) : (s.setFreg r v).draws = s.draws := rfl

/-! ### State.setCreg -/

@[simp] theorem State.setCreg_cfg (s : State) (r : Reg) (v : Word) : (s.setCreg r v).cfg = s.cfg := rfl
@[simp] theorem State.setCreg_platform (s : State) (r : Reg) (v : Word) : (s.setCreg r v).platform = s.platform := rfl
@[simp] theorem State.setCreg_mode (s : State) (r : Reg) (v : Word) : (s.setCreg r v).mode = s.mode := rfl
@[simp] theorem State.setCreg_pc (s : State) (r : Reg) (v : Word) : (s.setCreg r v).pc = s.pc := rfl
@[simp] theorem State.setCreg_npc (s : State) (r : Reg) (v : Word) : (s.setCreg r v).npc = s.npc := rfl
@[simp] theorem State.setCreg_ir (s : State) (r : Reg) (v : Word) : (s.setCreg r v).ir = s.ir := rfl
@[simp] theorem State.setCreg_psr (s : State) (r : Reg) (v : Word) : (s.setCreg r v).psr = s.psr := rfl
@[simp] theorem State.setCreg_wim (s : State) (r : Reg) (v : Word) : (s.setCreg r v).wim = s.wim := rfl
@[simp] theorem State.setCreg_tba (s : State) (r : Reg) (v : Word) : (s.setCreg r v).tba = s.tba := rfl
@[simp] theorem State.setCreg_tt (s : State) (r : Reg) (v : Word) : (s.setCreg r v).tt = s.tt := rfl
@[simp] theorem State.setCreg_y (s : State) (r : Reg) (v : Word) : (s.setCreg r v).y = s.y := rfl
@[simp] theorem State.setCreg_regs (s : State) (r : Reg) (v : Word) : (s.setCreg r v).regs = s.regs := rfl
@[simp] theorem State.setCreg_annulNext (s : State) (r : Reg) (v : Word) : (s.setCreg r v).annulNext = s.annulNext :=
  rfl
@[simp] theorem State.setCreg_condDelay (s : State) (r : Reg) (v : Word) : (s.setCreg r v).condDelay = s.condDelay :=
  rfl
@[simp] theorem State.setCreg_pfcSum (s : State) (r : Reg) (v : Word) : (s.setCreg r v).pfcSum = s.pfcSum := rfl
@[simp] theorem State.setCreg_pfcCheckEnabled (s : State) (r : Reg) (v : Word) :
    (s.setCreg r v).pfcCheckEnabled = s.pfcCheckEnabled :=
  rfl
@[simp] theorem State.setCreg_fpu (s : State) (r : Reg) (v : Word) : (s.setCreg r v).fpu = s.fpu := rfl
@[simp] theorem State.setCreg_cp (s : State) (r : Reg) (v : Word) :
    (s.setCreg r v).cp = ({ s.cp with c := s.cp.c.set r.toNat v r.isLt }) :=
  rfl
@[simp] theorem State.setCreg_cpCompare (s : State) (r : Reg) (v : Word) : (s.setCreg r v).cpCompare = s.cpCompare :=
  rfl
@[simp] theorem State.setCreg_hwerror (s : State) (r : Reg) (v : Word) : (s.setCreg r v).hwerror = s.hwerror := rfl
@[simp] theorem State.setCreg_mem (s : State) (r : Reg) (v : Word) : (s.setCreg r v).mem = s.mem := rfl
@[simp] theorem State.setCreg_wrote (s : State) (r : Reg) (v : Word) : (s.setCreg r v).wrote = s.wrote := rfl
@[simp] theorem State.setCreg_recent1 (s : State) (r : Reg) (v : Word) : (s.setCreg r v).recent1 = s.recent1 := rfl
@[simp] theorem State.setCreg_recent2 (s : State) (r : Reg) (v : Word) : (s.setCreg r v).recent2 = s.recent2 := rfl
@[simp] theorem State.setCreg_badLoad (s : State) (r : Reg) (v : Word) : (s.setCreg r v).badLoad = s.badLoad := rfl
@[simp] theorem State.setCreg_pins (s : State) (r : Reg) (v : Word) : (s.setCreg r v).pins = s.pins := rfl
@[simp] theorem State.setCreg_env (s : State) (r : Reg) (v : Word) : (s.setCreg r v).env = s.env := rfl
@[simp] theorem State.setCreg_events (s : State) (r : Reg) (v : Word) : (s.setCreg r v).events = s.events := rfl
@[simp] theorem State.setCreg_draws (s : State) (r : Reg) (v : Word) : (s.setCreg r v).draws = s.draws := rfl

/-! ### State.fpuRaises -/

@[simp] theorem State.fpuRaises_cfg (s : State) : s.fpuRaises.cfg = s.cfg := rfl
@[simp] theorem State.fpuRaises_platform (s : State) : s.fpuRaises.platform = s.platform := rfl
@[simp] theorem State.fpuRaises_mode (s : State) : s.fpuRaises.mode = s.mode := rfl
@[simp] theorem State.fpuRaises_pc (s : State) : s.fpuRaises.pc = s.pc := rfl
@[simp] theorem State.fpuRaises_npc (s : State) : s.fpuRaises.npc = s.npc := rfl
@[simp] theorem State.fpuRaises_ir (s : State) : s.fpuRaises.ir = s.ir := rfl
@[simp] theorem State.fpuRaises_psr (s : State) : s.fpuRaises.psr = s.psr := rfl
@[simp] theorem State.fpuRaises_wim (s : State) : s.fpuRaises.wim = s.wim := rfl
@[simp] theorem State.fpuRaises_tba (s : State) : s.fpuRaises.tba = s.tba := rfl
@[simp] theorem State.fpuRaises_tt (s : State) : s.fpuRaises.tt = s.tt := rfl
@[simp] theorem State.fpuRaises_y (s : State) : s.fpuRaises.y = s.y := rfl
@[simp] theorem State.fpuRaises_regs (s : State) : s.fpuRaises.regs = s.regs := rfl
@[simp] theorem State.fpuRaises_annulNext (s : State) : s.fpuRaises.annulNext = s.annulNext := rfl
@[simp] theorem State.fpuRaises_condDelay (s : State) : s.fpuRaises.condDelay = s.condDelay := rfl
@[simp] theorem State.fpuRaises_pfcSum (s : State) : s.fpuRaises.pfcSum = s.pfcSum := rfl
@[simp] theorem State.fpuRaises_pfcCheckEnabled (s : State) : s.fpuRaises.pfcCheckEnabled = s.pfcCheckEnabled := rfl
@[simp] theorem State.fpuRaises_fpu (s : State) :
    s.fpuRaises.fpu = ({ s.fpu with queue := s.fpu.queue ++ [(s.pc, s.ir)], excPending := true, fsr := Config.fsrAfterException s.ir (fsrWord s.fpu) }) :=
  rfl
@[simp] theorem State.fpuRaises_cp (s : State) : s.fpuRaises.cp = s.cp := rfl
@[simp] theorem State.fpuRaises_cpCompare (s : State) : s.fpuRaises.cpCompare = s.cpCompare := rfl
@[simp] theorem State.fpuRaises_hwerror (s : State) : s.fpuRaises.hwerror = s.hwerror := rfl
@[simp] theorem State.fpuRaises_mem (s : State) : s.fpuRaises.mem = s.mem := rfl
@[simp] theorem State.fpuRaises_wrote (s : State) : s.fpuRaises.wrote = s.wrote := rfl
@[simp] theorem State.fpuRaises_recent1 (s : State) : s.fpuRaises.recent1 = s.recent1 := rfl
@[simp] theorem State.fpuRaises_recent2 (s : State) : s.fpuRaises.recent2 = s.recent2 := rfl
@[simp] theorem State.fpuRaises_badLoad (s : State) : s.fpuRaises.badLoad = s.badLoad := rfl
@[simp] theorem State.fpuRaises_pins (s : State) : s.fpuRaises.pins = s.pins := rfl
@[simp] theorem State.fpuRaises_env (s : State) : s.fpuRaises.env = s.env := rfl
@[simp] theorem State.fpuRaises_events (s : State) : s.fpuRaises.events = s.events := rfl
@[simp] theorem State.fpuRaises_draws (s : State) : s.fpuRaises.draws = s.draws := rfl

/-! ### State.cpRaises -/

@[simp] theorem State.cpRaises_cfg (s : State) : s.cpRaises.cfg = s.cfg := rfl
@[simp] theorem State.cpRaises_platform (s : State) : s.cpRaises.platform = s.platform := rfl
@[simp] theorem State.cpRaises_mode (s : State) : s.cpRaises.mode = s.mode := rfl
@[simp] theorem State.cpRaises_pc (s : State) : s.cpRaises.pc = s.pc := rfl
@[simp] theorem State.cpRaises_npc (s : State) : s.cpRaises.npc = s.npc := rfl
@[simp] theorem State.cpRaises_ir (s : State) : s.cpRaises.ir = s.ir := rfl
@[simp] theorem State.cpRaises_psr (s : State) : s.cpRaises.psr = s.psr := rfl
@[simp] theorem State.cpRaises_wim (s : State) : s.cpRaises.wim = s.wim := rfl
@[simp] theorem State.cpRaises_tba (s : State) : s.cpRaises.tba = s.tba := rfl
@[simp] theorem State.cpRaises_tt (s : State) : s.cpRaises.tt = s.tt := rfl
@[simp] theorem State.cpRaises_y (s : State) : s.cpRaises.y = s.y := rfl
@[simp] theorem State.cpRaises_regs (s : State) : s.cpRaises.regs = s.regs := rfl
@[simp] theorem State.cpRaises_annulNext (s : State) : s.cpRaises.annulNext = s.annulNext := rfl
@[simp] theorem State.cpRaises_condDelay (s : State) : s.cpRaises.condDelay = s.condDelay := rfl
@[simp] theorem State.cpRaises_pfcSum (s : State) : s.cpRaises.pfcSum = s.pfcSum := rfl
@[simp] theorem State.cpRaises_pfcCheckEnabled (s : State) : s.cpRaises.pfcCheckEnabled = s.pfcCheckEnabled := rfl
@[simp] theorem State.cpRaises_fpu (s : State) : s.cpRaises.fpu = s.fpu := rfl
@[simp] theorem State.cpRaises_cp (s : State) :
    s.cpRaises.cp = ({ s.cp with queue := s.cp.queue ++ [(s.pc, s.ir)], excPending := true, csr := Config.csrAfterException s.ir (csrWord s.cp) }) :=
  rfl
@[simp] theorem State.cpRaises_cpCompare (s : State) : s.cpRaises.cpCompare = s.cpCompare := rfl
@[simp] theorem State.cpRaises_hwerror (s : State) : s.cpRaises.hwerror = s.hwerror := rfl
@[simp] theorem State.cpRaises_mem (s : State) : s.cpRaises.mem = s.mem := rfl
@[simp] theorem State.cpRaises_wrote (s : State) : s.cpRaises.wrote = s.wrote := rfl
@[simp] theorem State.cpRaises_recent1 (s : State) : s.cpRaises.recent1 = s.recent1 := rfl
@[simp] theorem State.cpRaises_recent2 (s : State) : s.cpRaises.recent2 = s.recent2 := rfl
@[simp] theorem State.cpRaises_badLoad (s : State) : s.cpRaises.badLoad = s.badLoad := rfl
@[simp] theorem State.cpRaises_pins (s : State) : s.cpRaises.pins = s.pins := rfl
@[simp] theorem State.cpRaises_env (s : State) : s.cpRaises.env = s.env := rfl
@[simp] theorem State.cpRaises_events (s : State) : s.cpRaises.events = s.events := rfl
@[simp] theorem State.cpRaises_draws (s : State) : s.cpRaises.draws = s.draws := rfl

/-! ### State.enterReset -/

@[simp] theorem State.enterReset_cfg (s : State) : s.enterReset.cfg = s.cfg := rfl
@[simp] theorem State.enterReset_platform (s : State) : s.enterReset.platform = s.platform := rfl
@[simp] theorem State.enterReset_mode (s : State) : s.enterReset.mode = .reset := rfl
@[simp] theorem State.enterReset_pc (s : State) : s.enterReset.pc = s.pc := rfl
@[simp] theorem State.enterReset_npc (s : State) : s.enterReset.npc = s.npc := rfl
@[simp] theorem State.enterReset_ir (s : State) : s.enterReset.ir = s.ir := rfl
@[simp] theorem State.enterReset_psr (s : State) : s.enterReset.psr = s.psr := rfl
@[simp] theorem State.enterReset_wim (s : State) : s.enterReset.wim = s.wim := rfl
@[simp] theorem State.enterReset_tba (s : State) : s.enterReset.tba = s.tba := rfl
@[simp] theorem State.enterReset_tt (s : State) : s.enterReset.tt = s.tt := rfl
@[simp] theorem State.enterReset_y (s : State) : s.enterReset.y = s.y := rfl
@[simp] theorem State.enterReset_regs (s : State) : s.enterReset.regs = s.regs := rfl
@[simp] theorem State.enterReset_annulNext (s : State) : s.enterReset.annulNext = s.annulNext := rfl
@[simp] theorem State.enterReset_condDelay (s : State) : s.enterReset.condDelay = s.condDelay := rfl
@[simp] theorem State.enterReset_pfcSum (s : State) : s.enterReset.pfcSum = s.pfcSum := rfl
@[simp] theorem State.enterReset_pfcCheckEnabled (s : State) : s.enterReset.pfcCheckEnabled = s.pfcCheckEnabled := rfl
@[simp] theorem State.enterReset_fpu (s : State) : s.enterReset.fpu = s.fpu := rfl
@[simp] theorem State.enterReset_cp (s : State) : s.enterReset.cp = s.cp := rfl
@[simp] theorem State.enterReset_cpCompare (s : State) : s.enterReset.cpCompare = s.cpCompare := rfl
@[simp] theorem State.enterReset_hwerror (s : State) : s.enterReset.hwerror = false := rfl
@[simp] theorem State.enterReset_mem (s : State) : s.enterReset.mem = s.mem := rfl
@[simp] theorem State.enterReset_wrote (s : State) : s.enterReset.wrote = s.wrote := rfl
@[simp] theorem State.enterReset_recent1 (s : State) : s.enterReset.recent1 = s.recent1 := rfl
@[simp] theorem State.enterReset_recent2 (s : State) : s.enterReset.recent2 = s.recent2 := rfl
@[simp] theorem State.enterReset_badLoad (s : State) : s.enterReset.badLoad = s.badLoad := rfl
@[simp] theorem State.enterReset_pins (s : State) : s.enterReset.pins = s.pins := rfl
@[simp] theorem State.enterReset_env (s : State) : s.enterReset.env = s.env := rfl
@[simp] theorem State.enterReset_events (s : State) : s.enterReset.events = s.events := rfl
@[simp] theorem State.enterReset_draws (s : State) : s.enterReset.draws = s.draws := rfl

/-! ### State.leaveReset -/

@[simp] theorem State.leaveReset_cfg (s : State) : s.leaveReset.cfg = s.cfg := rfl
@[simp] theorem State.leaveReset_platform (s : State) : s.leaveReset.platform = s.platform := rfl
@[simp] theorem State.leaveReset_mode (s : State) : s.leaveReset.mode = .execute := rfl
@[simp] theorem State.leaveReset_pc (s : State) : s.leaveReset.pc = 0#32 := rfl
@[simp] theorem State.leaveReset_npc (s : State) : s.leaveReset.npc = 4#32 := rfl
@[simp] theorem State.leaveReset_ir (s : State) : s.leaveReset.ir = s.ir := rfl
@[simp] theorem State.leaveReset_psr (s : State) : s.leaveReset.psr = ({ s.psr with et := false, s := true }) := rfl
@[simp] theorem State.leaveReset_wim (s : State) : s.leaveReset.wim = s.wim := rfl
@[simp] theorem State.leaveReset_tba (s : State) : s.leaveReset.tba = s.tba := rfl
@[simp] theorem State.leaveReset_tt (s : State) : s.leaveReset.tt = s.tt := rfl
@[simp] theorem State.leaveReset_y (s : State) : s.leaveReset.y = s.y := rfl
@[simp] theorem State.leaveReset_regs (s : State) : s.leaveReset.regs = s.regs := rfl
@[simp] theorem State.leaveReset_annulNext (s : State) : s.leaveReset.annulNext = false := rfl
@[simp] theorem State.leaveReset_condDelay (s : State) : s.leaveReset.condDelay = false := rfl
@[simp] theorem State.leaveReset_pfcSum (s : State) : s.leaveReset.pfcSum = 0#32 := rfl
@[simp] theorem State.leaveReset_pfcCheckEnabled (s : State) : s.leaveReset.pfcCheckEnabled = true := rfl
@[simp] theorem State.leaveReset_fpu (s : State) : s.leaveReset.fpu = s.fpu := rfl
@[simp] theorem State.leaveReset_cp (s : State) : s.leaveReset.cp = s.cp := rfl
@[simp] theorem State.leaveReset_cpCompare (s : State) : s.leaveReset.cpCompare = false := rfl
@[simp] theorem State.leaveReset_hwerror (s : State) : s.leaveReset.hwerror = s.hwerror := rfl
@[simp] theorem State.leaveReset_mem (s : State) : s.leaveReset.mem = s.mem := rfl
@[simp] theorem State.leaveReset_wrote (s : State) : s.leaveReset.wrote = s.wrote := rfl
@[simp] theorem State.leaveReset_recent1 (s : State) : s.leaveReset.recent1 = s.recent1 := rfl
@[simp] theorem State.leaveReset_recent2 (s : State) : s.leaveReset.recent2 = s.recent2 := rfl
@[simp] theorem State.leaveReset_badLoad (s : State) : s.leaveReset.badLoad = s.badLoad := rfl
@[simp] theorem State.leaveReset_pins (s : State) : s.leaveReset.pins = s.pins := rfl
@[simp] theorem State.leaveReset_env (s : State) : s.leaveReset.env = s.env := rfl
@[simp] theorem State.leaveReset_events (s : State) : s.leaveReset.events = s.events := rfl
@[simp] theorem State.leaveReset_draws (s : State) : s.leaveReset.draws = s.draws := rfl

/-! ### State.enterError -/

@[simp] theorem State.enterError_cfg (s : State) : s.enterError.cfg = s.cfg := rfl
@[simp] theorem State.enterError_platform (s : State) : s.enterError.platform = s.platform := rfl
@[simp] theorem State.enterError_mode (s : State) : s.enterError.mode = .error := rfl
@[simp] theorem State.enterError_pc (s : State) : s.enterError.pc = s.pc := rfl
@[simp] theorem State.enterError_npc (s : State) : s.enterError.npc = s.npc := rfl
@[simp] theorem State.enterError_ir (s : State) : s.enterError.ir = s.ir := rfl
@[simp] theorem State.enterError_psr (s : State) : s.enterError.psr = s.psr := rfl
@[simp] theorem State.enterError_wim (s : State) : s.enterError.wim = s.wim := rfl
@[simp] theorem State.enterError_tba (s : State) : s.enterError.tba = s.tba := rfl
@[simp] theorem State.enterError_tt (s : State) : s.enterError.tt = s.tt := rfl
@[simp] theorem State.enterError_y (s : State) : s.enterError.y = s.y := rfl
@[simp] theorem State.enterError_regs (s : State) : s.enterError.regs = s.regs := rfl
@[simp] theorem State.enterError_annulNext (s : State) : s.enterError.annulNext = s.annulNext := rfl
@[simp] theorem State.enterError_condDelay (s : State) : s.enterError.condDelay = s.condDelay := rfl
@[simp] theorem State.enterError_pfcSum (s : State) : s.enterError.pfcSum = s.pfcSum := rfl
@[simp] theorem State.enterError_pfcCheckEnabled (s : State) : s.enterError.pfcCheckEnabled = s.pfcCheckEnabled := rfl
@[simp] theorem State.enterError_fpu (s : State) : s.enterError.fpu = s.fpu := rfl
@[simp] theorem State.enterError_cp (s : State) : s.enterError.cp = s.cp := rfl
@[simp] theorem State.enterError_cpCompare (s : State) : s.enterError.cpCompare = s.cpCompare := rfl
@[simp] theorem State.enterError_hwerror (s : State) : s.enterError.hwerror = s.hwerror := rfl
@[simp] theorem State.enterError_mem (s : State) : s.enterError.mem = s.mem := rfl
@[simp] theorem State.enterError_wrote (s : State) : s.enterError.wrote = s.wrote := rfl
@[simp] theorem State.enterError_recent1 (s : State) : s.enterError.recent1 = s.recent1 := rfl
@[simp] theorem State.enterError_recent2 (s : State) : s.enterError.recent2 = s.recent2 := rfl
@[simp] theorem State.enterError_badLoad (s : State) : s.enterError.badLoad = s.badLoad := rfl
@[simp] theorem State.enterError_pins (s : State) : s.enterError.pins = s.pins := rfl
@[simp] theorem State.enterError_env (s : State) : s.enterError.env = s.env := rfl
@[simp] theorem State.enterError_events (s : State) : s.enterError.events = (s.events ++ [.error]) := rfl
@[simp] theorem State.enterError_draws (s : State) : s.enterError.draws = s.draws := rfl

/-! ### State.returnFromTrap -/

@[simp] theorem State.returnFromTrap_cfg (s : State) : s.returnFromTrap.cfg = s.cfg := rfl
@[simp] theorem State.returnFromTrap_platform (s : State) : s.returnFromTrap.platform = s.platform := rfl
@[simp] theorem State.returnFromTrap_mode (s : State) : s.returnFromTrap.mode = s.mode := rfl
@[simp] theorem State.returnFromTrap_pc (s : State) : s.returnFromTrap.pc = s.pc := rfl
@[simp] theorem State.returnFromTrap_npc (s : State) : s.returnFromTrap.npc = s.npc := rfl
@[simp] theorem State.returnFromTrap_ir (s : State) : s.returnFromTrap.ir = s.ir := rfl
@[simp] theorem State.returnFromTrap_psr (s : State) :
    s.returnFromTrap.psr = ({ s.psr with et := true, s := s.psr.ps, cwp := s.psr.cwp + 1#3 }) :=
  rfl
@[simp] theorem State.returnFromTrap_wim (s : State) : s.returnFromTrap.wim = s.wim := rfl
@[simp] theorem State.returnFromTrap_tba (s : State) : s.returnFromTrap.tba = s.tba := rfl
@[simp] theorem State.returnFromTrap_tt (s : State) : s.returnFromTrap.tt = s.tt := rfl
@[simp] theorem State.returnFromTrap_y (s : State) : s.returnFromTrap.y = s.y := rfl
@[simp] theorem State.returnFromTrap_regs (s : State) : s.returnFromTrap.regs = s.regs := rfl
@[simp] theorem State.returnFromTrap_annulNext (s : State) : s.returnFromTrap.annulNext = s.annulNext := rfl
@[simp] theorem State.returnFromTrap_condDelay (s : State) : s.returnFromTrap.condDelay = s.condDelay := rfl
@[simp] theorem State.returnFromTrap_pfcSum (s : State) : s.returnFromTrap.pfcSum = s.pfcSum := rfl
@[simp] theorem State.returnFromTrap_pfcCheckEnabled (s : State) :
    s.returnFromTrap.pfcCheckEnabled = ((s.pfcCheckEnabled && !s.cfg.flowEnabled)) :=
  rfl
@[simp] theorem State.returnFromTrap_fpu (s : State) : s.returnFromTrap.fpu = s.fpu := rfl
@[simp] theorem State.returnFromTrap_cp (s : State) : s.returnFromTrap.cp = s.cp := rfl
@[simp] theorem State.returnFromTrap_cpCompare (s : State) : s.returnFromTrap.cpCompare = s.cpCompare := rfl
@[simp] theorem State.returnFromTrap_hwerror (s : State) : s.returnFromTrap.hwerror = s.hwerror := rfl
@[simp] theorem State.returnFromTrap_mem (s : State) : s.returnFromTrap.mem = s.mem := rfl
@[simp] theorem State.returnFromTrap_wrote (s : State) : s.returnFromTrap.wrote = s.wrote := rfl
@[simp] theorem State.returnFromTrap_recent1 (s : State) : s.returnFromTrap.recent1 = s.recent1 := rfl
@[simp] theorem State.returnFromTrap_recent2 (s : State) : s.returnFromTrap.recent2 = s.recent2 := rfl
@[simp] theorem State.returnFromTrap_badLoad (s : State) : s.returnFromTrap.badLoad = s.badLoad := rfl
@[simp] theorem State.returnFromTrap_pins (s : State) : s.returnFromTrap.pins = s.pins := rfl
@[simp] theorem State.returnFromTrap_env (s : State) : s.returnFromTrap.env = s.env := rfl
@[simp] theorem State.returnFromTrap_events (s : State) : s.returnFromTrap.events = s.events := rfl
@[simp] theorem State.returnFromTrap_draws (s : State) : s.returnFromTrap.draws = s.draws := rfl

/-! ### trapEntryAt -/

@[simp] theorem trapEntryAt_cfg (s : State) (a b : Word) (t : Trap) : (trapEntryAt a b t s).cfg = s.cfg :=
  by simp [trapEntryAt]
@[simp] theorem trapEntryAt_platform (s : State) (a b : Word) (t : Trap) :
    (trapEntryAt a b t s).platform = s.platform :=
  by simp [trapEntryAt]
@[simp] theorem trapEntryAt_mode (s : State) (a b : Word) (t : Trap) : (trapEntryAt a b t s).mode = s.mode :=
  by simp [trapEntryAt]
@[simp] theorem trapEntryAt_pc (s : State) (a b : Word) (t : Trap) :
    (trapEntryAt a b t s).pc = (s.tba ++ t.tt ++ 0#4) :=
  rfl
@[simp] theorem trapEntryAt_npc (s : State) (a b : Word) (t : Trap) :
    (trapEntryAt a b t s).npc = ((s.tba ++ t.tt ++ 0#4) + 4#32) :=
  rfl
@[simp] theorem trapEntryAt_ir (s : State) (a b : Word) (t : Trap) : (trapEntryAt a b t s).ir = s.ir :=
  by simp [trapEntryAt]
@[simp] theorem trapEntryAt_psr (s : State) (a b : Word) (t : Trap) :
    (trapEntryAt a b t s).psr = ({ s.psr with et := false, ps := s.psr.s, s := true, cwp := s.psr.cwp - 1#3 }) :=
  rfl
@[simp] theorem trapEntryAt_wim (s : State) (a b : Word) (t : Trap) : (trapEntryAt a b t s).wim = s.wim :=
  by simp [trapEntryAt]
@[simp] theorem trapEntryAt_tba (s : State) (a b : Word) (t : Trap) : (trapEntryAt a b t s).tba = s.tba :=
  by simp [trapEntryAt]
@[simp] theorem trapEntryAt_tt (s : State) (a b : Word) (t : Trap) : (trapEntryAt a b t s).tt = t.tt := rfl
@[simp] theorem trapEntryAt_y (s : State) (a b : Word) (t : Trap) : (trapEntryAt a b t s).y = s.y :=
  by simp [trapEntryAt]
@[simp] theorem trapEntryAt_regs (s : State) (a b : Word) (t : Trap) :
    (trapEntryAt a b t s).regs = (((s.setRegIn (s.psr.cwp - 1#3) 17#5 a).setRegIn (s.psr.cwp - 1#3) 18#5 b).regs) :=
  rfl
@[simp] theorem trapEntryAt_annulNext (s : State) (a b : Word) (t : Trap) : (trapEntryAt a b t s).annulNext = false :=
  rfl
@[simp] theorem trapEntryAt_condDelay (s : State) (a b : Word) (t : Trap) : (trapEntryAt a b t s).condDelay = false :=
  rfl
@[simp] theorem trapEntryAt_pfcSum (s : State) (a b : Word) (t : Trap) : (trapEntryAt a b t s).pfcSum = s.pfcSum :=
  by simp [trapEntryAt]
@[simp] theorem trapEntryAt_pfcCheckEnabled (s : State) (a b : Word) (t : Trap) :
    (trapEntryAt a b t s).pfcCheckEnabled = ((s.pfcCheckEnabled && !s.cfg.flowEnabled)) :=
  rfl
@[simp] theorem trapEntryAt_fpu (s : State) (a b : Word) (t : Trap) :
    (trapEntryAt a b t s).fpu = (t.fpuAfter s.fpu) :=
  rfl
@[simp] theorem trapEntryAt_cp (s : State) (a b : Word) (t : Trap) : (trapEntryAt a b t s).cp = (t.cpAfter s.cp) :=
  rfl
@[simp] theorem trapEntryAt_cpCompare (s : State) (a b : Word) (t : Trap) :
    (trapEntryAt a b t s).cpCompare = s.cpCompare :=
  by simp [trapEntryAt]
@[simp] theorem trapEntryAt_hwerror (s : State) (a b : Word) (t : Trap) :
    (trapEntryAt a b t s).hwerror = ((s.hwerror || t.isHardware)) :=
  rfl
@[simp] theorem trapEntryAt_mem (s : State) (a b : Word) (t : Trap) : (trapEntryAt a b t s).mem = s.mem :=
  by simp [trapEntryAt]
@[simp] theorem trapEntryAt_wrote (s : State) (a b : Word) (t : Trap) : (trapEntryAt a b t s).wrote = s.wrote :=
  by simp [trapEntryAt]
@[simp] theorem trapEntryAt_recent1 (s : State) (a b : Word) (t : Trap) : (trapEntryAt a b t s).recent1 = s.recent1 :=
  by simp [trapEntryAt]
@[simp] theorem trapEntryAt_recent2 (s : State) (a b : Word) (t : Trap) : (trapEntryAt a b t s).recent2 = s.recent2 :=
  by simp [trapEntryAt]
@[simp] theorem trapEntryAt_badLoad (s : State) (a b : Word) (t : Trap) : (trapEntryAt a b t s).badLoad = s.badLoad :=
  by simp [trapEntryAt]
@[simp] theorem trapEntryAt_pins (s : State) (a b : Word) (t : Trap) : (trapEntryAt a b t s).pins = s.pins :=
  by simp [trapEntryAt]
@[simp] theorem trapEntryAt_env (s : State) (a b : Word) (t : Trap) : (trapEntryAt a b t s).env = s.env :=
  by simp [trapEntryAt]
@[simp] theorem trapEntryAt_events (s : State) (a b : Word) (t : Trap) :
    (trapEntryAt a b t s).events = (s.events ++ t.signals) :=
  rfl
@[simp] theorem trapEntryAt_draws (s : State) (a b : Word) (t : Trap) : (trapEntryAt a b t s).draws = s.draws :=
  by simp [trapEntryAt]

/-! ### State.branch -/

@[simp] theorem State.branch_cfg (s : State) (always taken a : Bool) (d : BitVec 22) :
    (s.branch always taken a d).cfg = s.cfg :=
  rfl
@[simp] theorem State.branch_platform (s : State) (always taken a : Bool) (d : BitVec 22) :
    (s.branch always taken a d).platform = s.platform :=
  rfl
@[simp] theorem State.branch_mode (s : State) (always taken a : Bool) (d : BitVec 22) :
    (s.branch always taken a d).mode = s.mode :=
  rfl
@[simp] theorem State.branch_pc (s : State) (always taken a : Bool) (d : BitVec 22) :
    (s.branch always taken a d).pc = s.npc :=
  rfl
@[simp] theorem State.branch_npc (s : State) (always taken a : Bool) (d : BitVec 22) :
    (s.branch always taken a d).npc = (if s.condDelay then Config.freeTarget s.draws ++ 0#2 else if taken then branchTarget d s else s.npc + 4#32) :=
  rfl
@[simp] theorem State.branch_ir (s : State) (always taken a : Bool) (d : BitVec 22) :
    (s.branch always taken a d).ir = s.ir :=
  rfl
@[simp] theorem State.branch_psr (s : State) (always taken a : Bool) (d : BitVec 22) :
    (s.branch always taken a d).psr = s.psr :=
  rfl
@[simp] theorem State.branch_wim (s : State) (always taken a : Bool) (d : BitVec 22) :
    (s.branch always taken a d).wim = s.wim :=
  rfl
@[simp] theorem State.branch_tba (s : State) (always taken a : Bool) (d : BitVec 22) :
    (s.branch always taken a d).tba = s.tba :=
  rfl
@[simp] theorem State.branch_tt (s : State) (always taken a : Bool) (d : BitVec 22) :
    (s.branch always taken a d).tt = s.tt :=
  rfl
@[simp] theorem State.branch_y (s : State) (always taken a : Bool) (d : BitVec 22) :
    (s.branch always taken a d).y = s.y :=
  rfl
@[simp] theorem State.branch_regs (s : State) (always taken a : Bool) (d : BitVec 22) :
    (s.branch always taken a d).regs = s.regs :=
  rfl
@[simp] theorem State.branch_annulNext (s : State) (always taken a : Bool) (d : BitVec 22) :
    (s.branch always taken a d).annulNext = ((a && (always || !taken))) :=
  rfl
@[simp] theorem State.branch_condDelay (s : State) (always taken a : Bool) (d : BitVec 22) :
    (s.branch always taken a d).condDelay = !always :=
  rfl
@[simp] theorem State.branch_pfcSum (s : State) (always taken a : Bool) (d : BitVec 22) :
    (s.branch always taken a d).pfcSum = (if s.cfg.flowEnabled then s.pfcSum ^^^ s.ir else s.pfcSum) :=
  rfl
@[simp] theorem State.branch_pfcCheckEnabled (s : State) (always taken a : Bool) (d : BitVec 22) :
    (s.branch always taken a d).pfcCheckEnabled = s.pfcCheckEnabled :=
  rfl
@[simp] theorem State.branch_fpu (s : State) (always taken a : Bool) (d : BitVec 22) :
    (s.branch always taken a d).fpu = s.fpu :=
  rfl
@[simp] theorem State.branch_cp (s : State) (always taken a : Bool) (d : BitVec 22) :
    (s.branch always taken a d).cp = s.cp :=
  rfl
@[simp] theorem State.branch_cpCompare (s : State) (always taken a : Bool) (d : BitVec 22) :
    (s.branch always taken a d).cpCompare = false :=
  rfl
@[simp] theorem State.branch_hwerror (s : State) (always taken a : Bool) (d : BitVec 22) :
    (s.branch always taken a d).hwerror = s.hwerror :=
  rfl
@[simp] theorem State.branch_mem (s : State) (always taken a : Bool) (d : BitVec 22) :
    (s.branch always taken a d).mem = s.mem :=
  rfl
@[simp] theorem State.branch_wrote (s : State) (always taken a : Bool) (d : BitVec 22) :
    (s.branch always taken a d).wrote = [] :=
  rfl
@[simp] theorem State.branch_recent1 (s : State) (always taken a : Bool) (d : BitVec 22) :
    (s.branch always taken a d).recent1 = s.wrote :=
  rfl
@[simp] theorem State.branch_recent2 (s : State) (always taken a : Bool) (d : BitVec 22) :
    (s.branch always taken a d).recent2 = s.recent1 :=
  rfl
@[simp] theorem State.branch_badLoad (s : State) (always taken a : Bool) (d : BitVec 22) :
    (s.branch always taken a d).badLoad = s.badLoad :=
  rfl
@[simp] theorem State.branch_pins (s : State) (always taken a : Bool) (d : BitVec 22) :
    (s.branch always taken a d).pins = s.pins :=
  rfl
@[simp] theorem State.branch_env (s : State) (always taken a : Bool) (d : BitVec 22) :
    (s.branch always taken a d).env = s.env :=
  rfl
@[simp] theorem State.branch_events (s : State) (always taken a : Bool) (d : BitVec 22) :
    (s.branch always taken a d).events = s.events :=
  rfl
@[simp] theorem State.branch_draws (s : State) (always taken a : Bool) (d : BitVec 22) :
    (s.branch always taken a d).draws = (if s.condDelay then s.draws + 1 else s.draws) :=
  rfl

/-! ### State.restartCheck -/

@[simp] theorem State.restartCheck_cfg (s : State) (b : Bool) : (s.restartCheck b).cfg = s.cfg := rfl
@[simp] theorem State.restartCheck_platform (s : State) (b : Bool) : (s.restartCheck b).platform = s.platform := rfl
@[simp] theorem State.restartCheck_mode (s : State) (b : Bool) : (s.restartCheck b).mode = s.mode := rfl
@[simp] theorem State.restartCheck_pc (s : State) (b : Bool) : (s.restartCheck b).pc = s.npc := rfl
@[simp] theorem State.restartCheck_npc (s : State) (b : Bool) : (s.restartCheck b).npc = (s.npc + 4#32) := rfl
@[simp] theorem State.restartCheck_ir (s : State) (b : Bool) : (s.restartCheck b).ir = s.ir := rfl
@[simp] theorem State.restartCheck_psr (s : State) (b : Bool) : (s.restartCheck b).psr = s.psr := rfl
@[simp] theorem State.restartCheck_wim (s : State) (b : Bool) : (s.restartCheck b).wim = s.wim := rfl
@[simp] theorem State.restartCheck_tba (s : State) (b : Bool) : (s.restartCheck b).tba = s.tba := rfl
@[simp] theorem State.restartCheck_tt (s : State) (b : Bool) : (s.restartCheck b).tt = s.tt := rfl
@[simp] theorem State.restartCheck_y (s : State) (b : Bool) : (s.restartCheck b).y = s.y := rfl
@[simp] theorem State.restartCheck_regs (s : State) (b : Bool) : (s.restartCheck b).regs = s.regs := rfl
@[simp] theorem State.restartCheck_annulNext (s : State) (b : Bool) : (s.restartCheck b).annulNext = s.annulNext :=
  rfl
@[simp] theorem State.restartCheck_condDelay (s : State) (b : Bool) : (s.restartCheck b).condDelay = false := rfl
@[simp] theorem State.restartCheck_pfcSum (s : State) (b : Bool) : (s.restartCheck b).pfcSum = 0#32 := rfl
@[simp] theorem State.restartCheck_pfcCheckEnabled (s : State) (b : Bool) : (s.restartCheck b).pfcCheckEnabled = b :=
  rfl
@[simp] theorem State.restartCheck_fpu (s : State) (b : Bool) : (s.restartCheck b).fpu = s.fpu := rfl
@[simp] theorem State.restartCheck_cp (s : State) (b : Bool) : (s.restartCheck b).cp = s.cp := rfl
@[simp] theorem State.restartCheck_cpCompare (s : State) (b : Bool) : (s.restartCheck b).cpCompare = false := rfl
@[simp] theorem State.restartCheck_hwerror (s : State) (b : Bool) : (s.restartCheck b).hwerror = s.hwerror := rfl
@[simp] theorem State.restartCheck_mem (s : State) (b : Bool) : (s.restartCheck b).mem = s.mem := rfl
@[simp] theorem State.restartCheck_wrote (s : State) (b : Bool) : (s.restartCheck b).wrote = [] := rfl
@[simp] theorem State.restartCheck_recent1 (s : State) (b : Bool) : (s.restartCheck b).recent1 = s.wrote := rfl
@[simp] theorem State.restartCheck_recent2 (s : State) (b : Bool) : (s.restartCheck b).recent2 = s.recent1 := rfl
@[simp] theorem State.restartCheck_badLoad (s : State) (b : Bool) : (s.restartCheck b).badLoad = s.badLoad := rfl
@[simp] theorem State.restartCheck_pins (s : State) (b : Bool) : (s.restartCheck b).pins = s.pins := rfl
@[simp] theorem State.restartCheck_env (s : State) (b : Bool) : (s.restartCheck b).env = s.env := rfl
@[simp] theorem State.restartCheck_events (s : State) (b : Bool) : (s.restartCheck b).events = s.events := rfl
@[simp] theorem State.restartCheck_draws (s : State) (b : Bool) : (s.restartCheck b).draws = s.draws := rfl

/-! ### State.skip -/

@[simp] theorem State.skip_cfg (s : State) (w : Word) : (s.skip w).cfg = s.cfg := rfl
@[simp] theorem State.skip_platform (s : State) (w : Word) : (s.skip w).platform = s.platform := rfl
@[simp] theorem State.skip_mode (s : State) (w : Word) : (s.skip w).mode = s.mode := rfl
@[simp] theorem State.skip_pc (s : State) (w : Word) : (s.skip w).pc = s.npc := rfl
@[simp] theorem State.skip_npc (s : State) (w : Word) : (s.skip w).npc = (s.npc + 4#32) := rfl
@[simp] theorem State.skip_ir (s : State) (w : Word) : (s.skip w).ir = w := rfl
@[simp] theorem State.skip_psr (s : State) (w : Word) : (s.skip w).psr = s.psr := rfl
@[simp] theorem State.skip_wim (s : State) (w : Word) : (s.skip w).wim = s.wim := rfl
@[simp] theorem State.skip_tba (s : State) (w : Word) : (s.skip w).tba = s.tba := rfl
@[simp] theorem State.skip_tt (s : State) (w : Word) : (s.skip w).tt = s.tt := rfl
@[simp] theorem State.skip_y (s : State) (w : Word) : (s.skip w).y = s.y := rfl
@[simp] theorem State.skip_regs (s : State) (w : Word) : (s.skip w).regs = s.regs := rfl
@[simp] theorem State.skip_annulNext (s : State) (w : Word) : (s.skip w).annulNext = false := rfl
@[simp] theorem State.skip_condDelay (s : State) (w : Word) : (s.skip w).condDelay = false := rfl
@[simp] theorem State.skip_pfcSum (s : State) (w : Word) :
    (s.skip w).pfcSum = (if s.cfg.flowEnabled then s.pfcSum ^^^ w else s.pfcSum) :=
  rfl
@[simp] theorem State.skip_pfcCheckEnabled (s : State) (w : Word) : (s.skip w).pfcCheckEnabled = s.pfcCheckEnabled :=
  rfl
@[simp] theorem State.skip_fpu (s : State) (w : Word) : (s.skip w).fpu = s.fpu := rfl
@[simp] theorem State.skip_cp (s : State) (w : Word) : (s.skip w).cp = s.cp := rfl
@[simp] theorem State.skip_cpCompare (s : State) (w : Word) : (s.skip w).cpCompare = s.cpCompare := rfl
@[simp] theorem State.skip_hwerror (s : State) (w : Word) : (s.skip w).hwerror = s.hwerror := rfl
@[simp] theorem State.skip_mem (s : State) (w : Word) : (s.skip w).mem = s.mem := rfl
@[simp] theorem State.skip_wrote (s : State) (w : Word) : (s.skip w).wrote = s.wrote := rfl
@[simp] theorem State.skip_recent1 (s : State) (w : Word) : (s.skip w).recent1 = s.recent1 := rfl
@[simp] theorem State.skip_recent2 (s : State) (w : Word) : (s.skip w).recent2 = s.recent2 := rfl
@[simp] theorem State.skip_badLoad (s : State) (w : Word) : (s.skip w).badLoad = s.badLoad := rfl
@[simp] theorem State.skip_pins (s : State) (w : Word) : (s.skip w).pins = s.pins := rfl
@[simp] theorem State.skip_env (s : State) (w : Word) : (s.skip w).env = s.env := rfl
@[simp] theorem State.skip_events (s : State) (w : Word) : (s.skip w).events = s.events := rfl
@[simp] theorem State.skip_draws (s : State) (w : Word) : (s.skip w).draws = s.draws := rfl

/-! ### State.nextSample -/

@[simp] theorem State.nextSample_cfg (s : State) : s.nextSample.cfg = s.cfg := rfl
@[simp] theorem State.nextSample_platform (s : State) : s.nextSample.platform = s.platform := rfl
@[simp] theorem State.nextSample_mode (s : State) : s.nextSample.mode = s.mode := rfl
@[simp] theorem State.nextSample_pc (s : State) : s.nextSample.pc = s.pc := rfl
@[simp] theorem State.nextSample_npc (s : State) : s.nextSample.npc = s.npc := rfl
@[simp] theorem State.nextSample_ir (s : State) : s.nextSample.ir = s.ir := rfl
@[simp] theorem State.nextSample_psr (s : State) : s.nextSample.psr = s.psr := rfl
@[simp] theorem State.nextSample_wim (s : State) : s.nextSample.wim = s.wim := rfl
@[simp] theorem State.nextSample_tba (s : State) : s.nextSample.tba = s.tba := rfl
@[simp] theorem State.nextSample_tt (s : State) : s.nextSample.tt = s.tt := rfl
@[simp] theorem State.nextSample_y (s : State) : s.nextSample.y = s.y := rfl
@[simp] theorem State.nextSample_regs (s : State) : s.nextSample.regs = s.regs := rfl
@[simp] theorem State.nextSample_annulNext (s : State) : s.nextSample.annulNext = s.annulNext := rfl
@[simp] theorem State.nextSample_condDelay (s : State) : s.nextSample.condDelay = s.condDelay := rfl
@[simp] theorem State.nextSample_pfcSum (s : State) : s.nextSample.pfcSum = s.pfcSum := rfl
@[simp] theorem State.nextSample_pfcCheckEnabled (s : State) : s.nextSample.pfcCheckEnabled = s.pfcCheckEnabled := rfl
@[simp] theorem State.nextSample_fpu (s : State) : s.nextSample.fpu = ((s.env.headD Pins.quiet).onFpu s.fpu) := rfl
@[simp] theorem State.nextSample_cp (s : State) : s.nextSample.cp = ((s.env.headD Pins.quiet).onCp s.cp) := rfl
@[simp] theorem State.nextSample_cpCompare (s : State) : s.nextSample.cpCompare = s.cpCompare := rfl
@[simp] theorem State.nextSample_hwerror (s : State) : s.nextSample.hwerror = s.hwerror := rfl
@[simp] theorem State.nextSample_mem (s : State) :
    s.nextSample.mem = (writeCells s.mem (s.env.headD Pins.quiet).masterWrites) :=
  rfl
@[simp] theorem State.nextSample_wrote (s : State) : s.nextSample.wrote = [] := rfl
@[simp] theorem State.nextSample_recent1 (s : State) : s.nextSample.recent1 = s.recent1 := rfl
@[simp] theorem State.nextSample_recent2 (s : State) : s.nextSample.recent2 = s.recent2 := rfl
@[simp] theorem State.nextSample_badLoad (s : State) : s.nextSample.badLoad = false := rfl
@[simp] theorem State.nextSample_pins (s : State) : s.nextSample.pins = (s.env.headD Pins.quiet) := rfl
@[simp] theorem State.nextSample_env (s : State) : s.nextSample.env = s.env.tail := rfl
@[simp] theorem State.nextSample_events (s : State) : s.nextSample.events = [] := rfl
@[simp] theorem State.nextSample_draws (s : State) : s.nextSample.draws = s.draws := rfl

/-! ### State.settleHwerror -/

@[simp] theorem State.settleHwerror_cfg (s : State) : s.settleHwerror.cfg = s.cfg := rfl
@[simp] theorem State.settleHwerror_platform (s : State) : s.settleHwerror.platform = s.platform := rfl
@[simp] theorem State.settleHwerror_mode (s : State) : s.settleHwerror.mode = s.mode := rfl
@[simp] theorem State.settleHwerror_pc (s : State) : s.settleHwerror.pc = s.pc := rfl
@[simp] theorem State.settleHwerror_npc (s : State) : s.settleHwerror.npc = s.npc := rfl
@[simp] theorem State.settleHwerror_ir (s : State) : s.settleHwerror.ir = s.ir := rfl
@[simp] theorem State.settleHwerror_psr (s : State) : s.settleHwerror.psr = s.psr := rfl
@[simp] theorem State.settleHwerror_wim (s : State) : s.settleHwerror.wim = s.wim := rfl
@[simp] theorem State.settleHwerror_tba (s : State) : s.settleHwerror.tba = s.tba := rfl
@[simp] theorem State.settleHwerror_tt (s : State) : s.settleHwerror.tt = s.tt := rfl
@[simp] theorem State.settleHwerror_y (s : State) : s.settleHwerror.y = s.y := rfl
@[simp] theorem State.settleHwerror_regs (s : State) : s.settleHwerror.regs = s.regs := rfl
@[simp] theorem State.settleHwerror_annulNext (s : State) : s.settleHwerror.annulNext = s.annulNext := rfl
@[simp] theorem State.settleHwerror_condDelay (s : State) : s.settleHwerror.condDelay = s.condDelay := rfl
@[simp] theorem State.settleHwerror_pfcSum (s : State) : s.settleHwerror.pfcSum = s.pfcSum := rfl
@[simp] theorem State.settleHwerror_pfcCheckEnabled (s : State) :
    s.settleHwerror.pfcCheckEnabled = s.pfcCheckEnabled :=
  rfl
@[simp] theorem State.settleHwerror_fpu (s : State) : s.settleHwerror.fpu = s.fpu := rfl
@[simp] theorem State.settleHwerror_cp (s : State) : s.settleHwerror.cp = s.cp := rfl
@[simp] theorem State.settleHwerror_cpCompare (s : State) : s.settleHwerror.cpCompare = s.cpCompare := rfl
@[simp] theorem State.settleHwerror_hwerror (s : State) :
    s.settleHwerror.hwerror = ((s.hwerror && s.pins.errorRemains)) :=
  rfl
@[simp] theorem State.settleHwerror_mem (s : State) : s.settleHwerror.mem = s.mem := rfl
@[simp] theorem State.settleHwerror_wrote (s : State) : s.settleHwerror.wrote = s.wrote := rfl
@[simp] theorem State.settleHwerror_recent1 (s : State) : s.settleHwerror.recent1 = s.recent1 := rfl
@[simp] theorem State.settleHwerror_recent2 (s : State) : s.settleHwerror.recent2 = s.recent2 := rfl
@[simp] theorem State.settleHwerror_badLoad (s : State) : s.settleHwerror.badLoad = s.badLoad := rfl
@[simp] theorem State.settleHwerror_pins (s : State) : s.settleHwerror.pins = s.pins := rfl
@[simp] theorem State.settleHwerror_env (s : State) : s.settleHwerror.env = s.env := rfl
@[simp] theorem State.settleHwerror_events (s : State) : s.settleHwerror.events = s.events := rfl
@[simp] theorem State.settleHwerror_draws (s : State) : s.settleHwerror.draws = s.draws := rfl

/-! ### State.afterFetch -/

@[simp] theorem State.afterFetch_cfg (s : State) : s.afterFetch.cfg = s.cfg := rfl
@[simp] theorem State.afterFetch_platform (s : State) : s.afterFetch.platform = s.platform := rfl
@[simp] theorem State.afterFetch_mode (s : State) : s.afterFetch.mode = s.mode := rfl
@[simp] theorem State.afterFetch_pc (s : State) : s.afterFetch.pc = s.pc := rfl
@[simp] theorem State.afterFetch_npc (s : State) : s.afterFetch.npc = s.npc := rfl
@[simp] theorem State.afterFetch_ir (s : State) : s.afterFetch.ir = s.ir := rfl
@[simp] theorem State.afterFetch_psr (s : State) : s.afterFetch.psr = s.psr := rfl
@[simp] theorem State.afterFetch_wim (s : State) : s.afterFetch.wim = s.wim := rfl
@[simp] theorem State.afterFetch_tba (s : State) : s.afterFetch.tba = s.tba := rfl
@[simp] theorem State.afterFetch_tt (s : State) : s.afterFetch.tt = s.tt := rfl
@[simp] theorem State.afterFetch_y (s : State) : s.afterFetch.y = s.y := rfl
@[simp] theorem State.afterFetch_regs (s : State) : s.afterFetch.regs = s.regs := rfl
@[simp] theorem State.afterFetch_annulNext (s : State) : s.afterFetch.annulNext = s.annulNext := rfl
@[simp] theorem State.afterFetch_condDelay (s : State) : s.afterFetch.condDelay = s.condDelay := rfl
@[simp] theorem State.afterFetch_pfcSum (s : State) : s.afterFetch.pfcSum = s.pfcSum := rfl
@[simp] theorem State.afterFetch_pfcCheckEnabled (s : State) : s.afterFetch.pfcCheckEnabled = s.pfcCheckEnabled := rfl
@[simp] theorem State.afterFetch_fpu (s : State) : s.afterFetch.fpu = s.fpu := rfl
@[simp] theorem State.afterFetch_cp (s : State) : s.afterFetch.cp = s.cp := rfl
@[simp] theorem State.afterFetch_cpCompare (s : State) : s.afterFetch.cpCompare = s.cpCompare := rfl
@[simp] theorem State.afterFetch_hwerror (s : State) : s.afterFetch.hwerror = s.hwerror := rfl
@[simp] theorem State.afterFetch_mem (s : State) : s.afterFetch.mem = (writeCells s.mem s.pins.midWrites) := rfl
@[simp] theorem State.afterFetch_wrote (s : State) : s.afterFetch.wrote = s.wrote := rfl
@[simp] theorem State.afterFetch_recent1 (s : State) : s.afterFetch.recent1 = s.recent1 := rfl
@[simp] theorem State.afterFetch_recent2 (s : State) : s.afterFetch.recent2 = s.recent2 := rfl
@[simp] theorem State.afterFetch_badLoad (s : State) : s.afterFetch.badLoad = s.badLoad := rfl
@[simp] theorem State.afterFetch_pins (s : State) : s.afterFetch.pins = s.pins := rfl
@[simp] theorem State.afterFetch_env (s : State) : s.afterFetch.env = s.env := rfl
@[simp] theorem State.afterFetch_events (s : State) : s.afterFetch.events = (s.events ++ s.fetchEvents) := rfl
@[simp] theorem State.afterFetch_draws (s : State) : s.afterFetch.draws = s.draws := rfl

end Sys2Proof.Machine
end

