-- ==== Sys2Proof/Laws/Ops.lean ====
section
/-! SUPPORT. What each shared operation can do, said once: registers and windows, bus accesses, loads and stores,
guards, traps, units, fetches and late errors. -/

namespace Sys2Proof.Machine

/-! ### Registers and windows -/

theorem regIndex_zero (w : BitVec 3) : (regIndex w 0#5).val = 0 := by
  revert w; decide

/-- Within one window different registers have different places. -/
theorem regIndex_inj (w : BitVec 3) (i j : Reg) : regIndex w i = regIndex w j ↔ i = j := by
  refine ⟨fun h => ?_, fun h => h ▸ rfl⟩
  have h : (regIndex w i).val = (regIndex w j).val := congrArg Fin.val h
  have hw := w.isLt
  have hi := i.isLt
  have hj := j.isLt
  apply BitVec.eq_of_toNat_eq
  unfold regIndex at h
  split at h <;> split at h <;> simp only at h <;> omega

/-- The outs of a window are the ins of the next one (R23). -/
theorem regIndex_overlap (w : BitVec 3) (k : BitVec 3) :
    regIndex w (24#5 + k.setWidth 5) = regIndex (w + 1#3) (8#5 + k.setWidth 5) := by
  revert w k; decide

/-- The globals are shared by all windows (R23). -/
theorem regIndex_global (w w' : BitVec 3) (k : BitVec 3) :
    regIndex w (k.setWidth 5) = regIndex w' (k.setWidth 5) := by
  revert w w' k; decide

theorem regIn_zero (s : State) (w : BitVec 3) : s.regIn w 0#5 = 0#32 := by simp [State.regIn]

@[simp] theorem reg_zero (s : State) : s.reg 0#5 = 0#32 := regIn_zero s _

/-- Reading a register after a register of the same window is written. -/
theorem regIn_setRegIn (s : State) (w : BitVec 3) (i j : Reg) (v : Word) :
    (s.setRegIn w i v).regIn w j = if j = i ∧ i ≠ 0#5 then v else s.regIn w j := by
  unfold State.setRegIn
  split
  · next h => simp [h]
  · next h =>
    unfold State.regIn
    by_cases hj : j = i
    · subst hj; simp [h]
    · have : (regIndex w i).val ≠ (regIndex w j).val := fun e => hj ((regIndex_inj w j i).1 (Fin.ext e.symm))
      simp [hj, this]

theorem reg_setReg (s : State) (i j : Reg) (v : Word) :
    (s.setReg i v).reg j = if j = i ∧ i ≠ 0#5 then v else s.reg j := by
  unfold State.reg State.setReg
  rw [State.setRegIn_psr]
  exact regIn_setRegIn s _ i j v

/-- A register write leaves every other place of the register file alone. -/
theorem setRegIn_regs_other (s : State) (w : BitVec 3) (i : Reg) (v : Word) (j : Fin 136) (h : j ≠ regIndex w i) :
    (s.setRegIn w i v).regs[j.val] = s.regs[j.val] := by
  have h' : (regIndex w i).val ≠ j.val := fun e => h (Fin.ext e.symm)
  unfold State.setRegIn
  split
  · rfl
  · simp [h']

theorem setReg_regs_other (s : State) (i : Reg) (v : Word) (j : Fin 136) (h : j ≠ regIndex s.psr.cwp i) :
    (s.setReg i v).regs[j.val] = s.regs[j.val] := setRegIn_regs_other s _ i v j h

theorem setRegIn_zero (s : State) (w : BitVec 3) (v : Word) : s.setRegIn w 0#5 v = s := by simp [State.setRegIn]

theorem setReg_zero (s : State) (v : Word) : s.setReg 0#5 v = s := setRegIn_zero s _ v

theorem regIndex_val_ne_zero {w : BitVec 3} {i : Reg} (h : i ≠ 0#5) : (regIndex w i).val ≠ 0 := fun e =>
  h ((regIndex_inj w i 0#5).1 (Fin.ext (by rw [e, regIndex_zero])))

/-- No write reaches the place of r[0] (R24). -/
theorem setRegIn_place_zero (s : State) (w : BitVec 3) (i : Reg) (v : Word) :
    (s.setRegIn w i v).regs[0] = s.regs[0] := by
  by_cases h : i = 0#5
  · rw [h, setRegIn_zero]
  · have := setRegIn_regs_other s w i v ⟨0, by decide⟩ (fun e => regIndex_val_ne_zero h (congrArg Fin.val e).symm)
    exact this

/-! ### Bus accesses -/

/-- The bus event of a read. -/
def readCycle (asi : Asi) (addr : Word) (size : AccessSize) (locked atomic : Bool) : Event :=
  .bus { kind := .read, asi, addr, size, data := none, locked, atomic }

/-- The bus event of a write. -/
def writeCycle (asi : Asi) (addr : Word) (size : AccessSize) (v : Word) (atomic : Bool) : Event :=
  .bus { kind := .write, asi, addr, size, data := some (busLanes size v), locked := true, atomic }

/-- The state after a data access that has left memory as it was: one answer is used up, one event put out, and the data may
be free; it is bad only where what the step loads is suspect. -/
def Accessed (s t : State) : Prop :=
  ∃ (e : Event) (n : Nat) (b : Bool), (s.loadSuspect = false → b = s.badLoad)
    ∧ t = { s.popAnswer.emit e with draws := n, badLoad := b }

theorem accessed_emit (s : State) (e : Event) : Accessed s (s.popAnswer.emit e) := ⟨e, s.draws, s.badLoad, fun _ => rfl, rfl⟩

/-- The state after a write: storage has taken the bytes, or a device the write. -/
def Stored (asi : Asi) (addr : Word) (size : AccessSize) (v : Word) (s t : State) : Prop :=
  ∃ u, Accessed s u ∧ (t = u.storeBytes asi addr size v ∨ t = u)

theorem loadSuspect_seen (s : State) (e : Event) : (s.popAnswer.emit e).loadSuspect = s.loadSuspect := rfl

/-- A read of storage that the environment lets through and whose data is good. -/
theorem busRead_storage {asi : Asi} {addr : Word} {size : AccessSize} {locked atomic : Bool} {s : State}
    (ha : s.nextAnswer = .ready) (hg : s.loadSuspect = false)
    (hk : regionKind s.platform asi addr = .ram ∨ regionKind s.platform asi addr = .rom) :
    busRead asi addr size locked atomic s
      = .ok (readValue s.platform s.mem asi addr size) (s.popAnswer.emit (readCycle asi addr size locked atomic)) := by
  unfold busRead
  rcases hk with hk | hk <;> simp [ha, hk, answerRead, takeData, loadSuspect_seen, hg, readCycle]

/-- Everything the memory system can answer to a read. -/
theorem answerRead_cases (given : Option Word) (asi : Asi) (addr : Word) (size : AccessSize) (s : State) :
    (∃ v n, answerRead given asi addr size s = .ok v { s with draws := n }) ∨ answerRead given asi addr size s = .exception s := by
  unfold answerRead
  cases regionKind s.platform asi addr with
  | ram => exact .inl ⟨_, s.draws, rfl⟩
  | rom => exact .inl ⟨_, s.draws, rfl⟩
  | device => cases given <;> exact .inl ⟨_, _, rfl⟩
  | absent => exact .inr rfl

/-- Everything a read can do. -/
theorem busRead_cases (asi : Asi) (addr : Word) (size : AccessSize) (locked atomic : Bool) (s : State) :
    (∃ v u, Accessed s u ∧ busRead asi addr size locked atomic s = .ok v u)
    ∨ (∃ u, Accessed s u ∧ busRead asi addr size locked atomic s = .exception u)
    ∨ busRead asi addr size locked atomic s = .reset s.popAnswer := by
  have taken (given : Option Word) (u : State) (hu : u = s.popAnswer.emit (readCycle asi addr size locked atomic)) :
      (∃ v w, Accessed s w ∧ takeData size addr (answerRead given asi addr size u) = .ok v w)
      ∨ ∃ w, Accessed s w ∧ takeData size addr (answerRead given asi addr size u) = .exception w := by
    subst hu
    rcases answerRead_cases given asi addr size (s.popAnswer.emit (readCycle asi addr size locked atomic)) with
      ⟨v, n, e⟩ | e <;> rw [e]
    · by_cases hg : s.loadSuspect = true
      · exact .inl ⟨_, _, ⟨_, n + 1, true, fun h => absurd hg (by simp [h]), rfl⟩, if_pos hg⟩
      · exact .inl ⟨_, _, ⟨_, n, s.badLoad, fun _ => rfl, rfl⟩, if_neg hg⟩
    · exact .inr ⟨_, accessed_emit s _, rfl⟩
  unfold busRead
  cases s.nextAnswer with
  | ready => exact (taken none _ rfl).elim .inl fun h => .inr (.inl h)
  | data v => exact (taken (some v) _ rfl).elim .inl fun h => .inr (.inl h)
  | mexc => exact .inr (.inl ⟨_, accessed_emit s _, rfl⟩)
  | reset => exact .inr (.inr rfl)

/-- A write that the environment and the platform map let through to storage. -/
theorem busWrite_ram {asi : Asi} {addr v : Word} {size : AccessSize} {atomic : Bool} {s : State}
    (ha : s.nextAnswer = .ready) (hk : regionKind s.platform asi addr = .ram) :
    busWrite asi addr size v atomic s
      = .ok 0#32 ((s.popAnswer.emit (writeCycle asi addr size v atomic)).storeBytes asi addr size v) := by
  simp [busWrite, answerWrite, ha, hk, writeCycle]

/-- Everything a write can do. -/
theorem busWrite_cases (asi : Asi) (addr : Word) (size : AccessSize) (v : Word) (atomic : Bool) (s : State) :
    (∃ u, Stored asi addr size v s u ∧ busWrite asi addr size v atomic s = .ok 0#32 u)
    ∨ (∃ u, Accessed s u ∧ busWrite asi addr size v atomic s = .exception u)
    ∨ busWrite asi addr size v atomic s = .reset s.popAnswer := by
  have hs := accessed_emit s (writeCycle asi addr size v atomic)
  have taken (u : State) (hu : u = s.popAnswer.emit (writeCycle asi addr size v atomic)) :
      (∃ w, Stored asi addr size v s w ∧ answerWrite asi addr size v u = .ok 0#32 w)
      ∨ ∃ w, Accessed s w ∧ answerWrite asi addr size v u = .exception w := by
    subst hu
    unfold answerWrite
    cases regionKind (s.popAnswer.emit (writeCycle asi addr size v atomic)).platform asi addr with
    | ram => exact .inl ⟨_, ⟨_, hs, .inl rfl⟩, rfl⟩
    | rom => exact .inr ⟨_, hs, rfl⟩
    | device => exact .inl ⟨_, ⟨_, hs, .inr rfl⟩, rfl⟩
    | absent => exact .inr ⟨_, hs, rfl⟩
  unfold busWrite
  cases s.nextAnswer with
  | ready => exact (taken _ rfl).elim .inl fun h => .inr (.inl h)
  | data _ => exact (taken _ rfl).elim .inl fun h => .inr (.inl h)
  | mexc => exact .inr (.inl ⟨_, hs, rfl⟩)
  | reset => exact .inr (.inr rfl)

@[simp] theorem andThen_ok (v : Word) (s : State) (e : State → Result) (k : Word → State → Result) :
    (Access.ok v s).andThen e k = k v s := rfl
@[simp] theorem andThen_exception (s : State) (e : State → Result) (k : Word → State → Result) :
    (Access.exception s).andThen e k = e s := rfl
@[simp] theorem andThen_reset (s : State) (e : State → Result) (k : Word → State → Result) :
    (Access.reset s).andThen e k = .next s.enterReset := rfl

/-- What a load of one access can lead to. -/
theorem loadOne_next {size : AccessSize} {asi : Asi} {addr : Word} {finish : Word → State → State} {s t : State}
    (h : loadOne size asi addr finish s = .next t) :
    (∃ v u, Accessed s u ∧ t = finish v u)
    ∨ (∃ u, Accessed s u ∧ raise .dataAccess u = .next t) ∨ t = s.popAnswer.enterReset := by
  unfold loadOne at h
  rcases busRead_cases asi addr size false false s with ⟨v, u, a, e⟩ | ⟨u, a, e⟩ | e <;> rw [e] at h <;> simp at h
  · exact .inl ⟨v, u, a, h.symm⟩
  · exact .inr (.inl ⟨u, a, h⟩)
  · exact .inr (.inr h.symm)

/-- What a doubleword load can lead to. -/
theorem loadTwo_next {asi : Asi} {addr : Word} {onExc : State → Result} {finish : Word → Word → State → State}
    {s t : State} (h : loadTwo asi addr onExc finish s = .next t) :
    (∃ hi lo u u', Accessed s u ∧ Accessed u u' ∧ t = finish hi lo u')
    ∨ (∃ u, Accessed s u ∧ onExc u = .next t) ∨ (∃ u u', Accessed s u ∧ Accessed u u' ∧ onExc u' = .next t)
    ∨ t = s.popAnswer.enterReset ∨ (∃ u, Accessed s u ∧ t = u.popAnswer.enterReset) := by
  unfold loadTwo at h
  rcases busRead_cases asi addr .double true false s with ⟨hi, u, a, e⟩ | ⟨u, a, e⟩ | e <;> rw [e] at h <;>
    simp only [andThen_ok, andThen_exception, andThen_reset, Host.Outcome.next.injEq] at h
  · rcases busRead_cases asi (addr + 4#32) .double true false u with ⟨lo, u', a', e'⟩ | ⟨u', a', e'⟩ | e' <;>
      rw [e'] at h <;> simp only [andThen_ok, andThen_exception, andThen_reset, Host.Outcome.next.injEq] at h
    · exact .inl ⟨hi, lo, u, u', a, a', h.symm⟩
    · exact .inr (.inr (.inl ⟨u, u', a, a', h⟩))
    · exact .inr (.inr (.inr (.inr ⟨u, a, h.symm⟩)))
  · exact .inr (.inl ⟨u, a, h⟩)
  · exact .inr (.inr (.inr (.inl h.symm)))

/-- What a store of one access can lead to. -/
theorem storeOne_next {size : AccessSize} {asi : Asi} {addr v : Word} {finish : State → State} {s t : State}
    (h : storeOne size asi addr v finish s = .next t) :
    (∃ u, Stored asi addr size v s u ∧ t = finish u)
    ∨ (∃ u, Accessed s u ∧ raise .dataAccess u = .next t) ∨ t = s.popAnswer.enterReset := by
  unfold storeOne at h
  rcases busWrite_cases asi addr size v false s with ⟨u, a, e⟩ | ⟨u, a, e⟩ | e <;> rw [e] at h <;> simp at h
  · exact .inl ⟨u, a, h.symm⟩
  · exact .inr (.inl ⟨u, a, h⟩)
  · exact .inr (.inr h.symm)

/-- What a doubleword store can lead to. -/
theorem storeTwo_next {asi : Asi} {addr hi lo : Word} {finish : State → State} {s t : State}
    (h : storeTwo asi addr hi lo finish s = .next t) :
    (∃ u u', Stored asi addr .double hi s u ∧ Stored asi (addr + 4#32) .double lo u u' ∧ t = finish u')
    ∨ (∃ u, Accessed s u ∧ raise .dataAccess u = .next t)
    ∨ (∃ u u', Stored asi addr .double hi s u ∧ Accessed u u' ∧ secondWordRefused s.mem u' = .next t)
    ∨ t = s.popAnswer.enterReset ∨ (∃ u, Stored asi addr .double hi s u ∧ t = u.popAnswer.enterReset) := by
  unfold storeTwo at h
  rcases busWrite_cases asi addr .double hi false s with ⟨u, a, e⟩ | ⟨u, a, e⟩ | e <;> rw [e] at h <;>
    simp only [andThen_ok, andThen_exception, andThen_reset, Host.Outcome.next.injEq] at h
  · rcases busWrite_cases asi (addr + 4#32) .double lo false u with ⟨u', a', e'⟩ | ⟨u', a', e'⟩ | e' <;>
      rw [e'] at h <;> simp only [andThen_ok, andThen_exception, andThen_reset, Host.Outcome.next.injEq] at h
    · exact .inl ⟨u, u', a, a', h.symm⟩
    · exact .inr (.inr (.inl ⟨u, u', a, a', h⟩))
    · exact .inr (.inr (.inr (.inr ⟨u, a, h.symm⟩)))
  · exact .inr (.inl ⟨u, a, h⟩)
  · exact .inr (.inr (.inr (.inl h.symm)))

/-- What an atomic load-store can lead to. -/
theorem loadStore_next {size : AccessSize} {asi : Asi} {addr v : Word} {finish : Word → State → State} {s t : State}
    (h : loadStore size asi addr v finish s = .next t) :
    (∃ old u u', Accessed s u ∧ Stored asi addr size v u u' ∧ t = finish old u')
    ∨ (∃ u, Accessed s u ∧ raise .dataAccess u = .next t)
    ∨ (∃ u u', Accessed s u ∧ Accessed u u' ∧ raise .dataAccess u' = .next t)
    ∨ t = s.popAnswer.enterReset ∨ (∃ u, Accessed s u ∧ t = u.popAnswer.enterReset) := by
  unfold loadStore at h
  rcases busRead_cases asi addr size true true s with ⟨old, u, a, e⟩ | ⟨u, a, e⟩ | e <;> rw [e] at h <;>
    simp only [andThen_ok, andThen_exception, andThen_reset, Host.Outcome.next.injEq] at h
  · rcases busWrite_cases asi addr size v true u with ⟨u', a', e'⟩ | ⟨u', a', e'⟩ | e' <;>
      rw [e'] at h <;> simp only [andThen_ok, andThen_exception, andThen_reset, Host.Outcome.next.injEq] at h
    · exact .inl ⟨old, u, u', a, a', h.symm⟩
    · exact .inr (.inr (.inl ⟨u, u', a, a', h⟩))
    · exact .inr (.inr (.inr (.inr ⟨u, a, h.symm⟩)))
  · exact .inr (.inl ⟨u, a, h⟩)
  · exact .inr (.inr (.inr (.inl h.symm)))

/-! ### Traps and guards -/

/-- `raise` always takes the trap. -/
theorem raise_next {t : Trap} {s u : State} : raise t s = .next u ↔ u = raiseAt s.pc s.npc t s := by
  simp [raise, eq_comm]

/-- A synchronous trap is trap entry, with traps disabled followed by error mode. -/
theorem raiseAt_cases (a b : Word) (t : Trap) (s : State) :
    (s.psr.et = true ∧ raiseAt a b t s = trapEntryAt a b t s)
    ∨ (s.psr.et = false ∧ raiseAt a b t s = (trapEntryAt a b t s).enterError) := by
  unfold raiseAt
  cases s.psr.et <;> simp

theorem secondWordRefused_next {before : List Host.Cell} {s t : State} (h : secondWordRefused before s = .next t) :
    t = raiseAt s.pc s.npc .dataAccess
      { s.drawn with mem := if Config.freeBool s.draws then s.mem else before } := raise_next.1 h

theorem privileged_next {k : State → Result} {s t : State} (h : privileged k s = .next t) :
    (s.psr.s = true ∧ k s = .next t) ∨ (s.psr.s = false ∧ raise .privilegedInstruction s = .next t) := by
  unfold privileged at h; split at h
  · next c => exact .inl ⟨c, h⟩
  · next c => exact .inr ⟨by simpa using c, h⟩

theorem whenAligned_next {z : AccessSize} {a : Word} {k : State → Result} {s t : State}
    (h : whenAligned z a k s = .next t) :
    (aligned z a = true ∧ k s = .next t) ∨ (aligned z a = false ∧ raise .memAddressNotAligned s = .next t) := by
  unfold whenAligned at h; split at h
  · next c => exact .inl ⟨c, h⟩
  · next c => exact .inr ⟨by simpa using c, h⟩

theorem withFp_next {k : State → Result} {s t : State} (h : withFp k s = .next t) :
    (s.fpEnabled = true ∧ k s = .next t) ∨ (s.fpEnabled = false ∧ raise .fpDisabled s = .next t) := by
  unfold withFp at h; split at h
  · next c => exact .inl ⟨c, h⟩
  · next c => exact .inr ⟨by simpa using c, h⟩

theorem withCp_next {k : State → Result} {s t : State} (h : withCp k s = .next t) :
    (s.cpEnabled = true ∧ k s = .next t) ∨ (s.cpEnabled = false ∧ raise .cpDisabled s = .next t) := by
  unfold withCp at h; split at h
  · next c => exact .inl ⟨c, h⟩
  · next c => exact .inr ⟨by simpa using c, h⟩

theorem launchFp_next {k : State → Result} {s t : State} (h : launchFp k s = .next t) :
    (s.fpu.excPending = true ∧ raise .fpException s = .next t)
    ∨ (s.fpu.excPending = false ∧ k (s.emit (.launchFp s.ir s.pc)) = .next t) := by
  unfold launchFp at h; split at h
  · next c => exact .inl ⟨c, h⟩
  · next c => exact .inr ⟨by simpa using c, h⟩

theorem launchCp_next {k : State → Result} {s t : State} (h : launchCp k s = .next t) :
    (s.cp.excPending = true ∧ raise .cpException s = .next t)
    ∨ (s.cp.excPending = false ∧ k (s.emit (.launchCp s.ir s.pc)) = .next t) := by
  unfold launchCp at h; split at h
  · next c => exact .inl ⟨c, h⟩
  · next c => exact .inr ⟨by simpa using c, h⟩

/-! ### The units -/

theorem putBit_getLsbD (w : Word) (k : Nat) (b : Bool) (j : Nat) (hj : j < 32) :
    (putBit w k b).getLsbD j = if j = k then b else w.getLsbD j := by
  unfold putBit
  by_cases h : j = k
  · subst h; cases b <;> simp [hj]
  · have hjk : j < k ∨ ¬ j - k = 0 := by omega
    have hkj : k ≤ j → ¬ j - k = 0 := by omega
    cases b <;> simp [h, hj]
    · exact fun _ => hjk
    · exact fun a b => absurd b (hkj a)

/-- The two condition code bits have different places. -/
theorem lowPlace_ne (place : Fin 32 × Fin 31) : lowPlace place ≠ place.1.val := by
  have h1 := place.1.isLt
  have h2 := place.2.isLt
  unfold lowPlace; omega

/-- The condition code put into a status register value is the one read from it (R433). -/
theorem codeOf_withCode (place : Fin 32 × Fin 31) (c : BitVec 2) (w : Word) : codeOf place (withCode place c w) = c := by
  have hl : lowPlace place < 32 := Nat.mod_lt _ (by decide)
  unfold codeOf withCode
  rw [putBit_getLsbD _ _ _ _ place.1.isLt, putBit_getLsbD _ _ _ _ hl, putBit_getLsbD _ _ _ _ place.1.isLt,
    if_neg (Ne.symm (lowPlace_ne place)), if_pos rfl, if_pos rfl]
  revert c; decide

/-- Exception mode lasts and keeps the queue in front, whatever the FPU answers (R55). -/
theorem fpEnds_excMode {data : List Word} {ready : State → State} {s : State} (h : s.fpu.excMode = true) :
    (fpEnds data ready s).fpu.excMode = true ∧ s.fpu.queue <+: (fpEnds data ready s).fpu.queue := by
  unfold fpEnds; rw [if_pos h]
  exact ⟨rfl, List.prefix_append _ _⟩

theorem fpEnds_ready {data : List Word} {ready : State → State} {s : State} (h : s.fpu.excMode = false) :
    fpEnds data ready s = ready s := by simp [fpEnds, h]

theorem cpEnds_excMode {data : List Word} {ready : State → State} {s : State} (h : s.cp.excMode = true) :
    (cpEnds data ready s).cp.excMode = true ∧ s.cp.queue <+: (cpEnds data ready s).cp.queue := by
  unfold cpEnds; rw [if_pos h]
  exact ⟨rfl, List.prefix_append _ _⟩

theorem cpEnds_ready {data : List Word} {ready : State → State} {s : State} (h : s.cp.excMode = false) :
    cpEnds data ready s = ready s := by simp [cpEnds, h]

/-- Only writing the FPU's fields changes whether it is enabled. -/
theorem fpEnabled_congr {s t : State} (hp : t.psr = s.psr) (hc : t.cfg = s.cfg) : t.fpEnabled = s.fpEnabled := by
  simp [State.fpEnabled, hp, hc]

/-- Everything the FPU's own lines can do to it (R11, R55). -/
theorem onFpu_cases (p : Pins) (u : Fpu) :
    ((u.excPending = true ∨ p.fexc = []) ∧ p.onFpu u = { u with fcc := p.fcc.getD u.fcc })
    ∨ (u.excPending = false ∧ p.fexc ≠ [] ∧ ∃ f fsr, p.onFpu u =
        { u with fcc := p.fcc.getD u.fcc, f, fsr, queue := u.queue ++ p.fexc, excPending := true }) := by
  cases hu : u.excPending <;> cases hp : p.fexc <;> simp [Pins.onFpu, fpRecognises, hu, hp]

/-- Everything the coprocessor's own lines can do to it (R11, R50). -/
theorem onCp_cases (p : Pins) (u : Coprocessor) :
    ((u.excPending = true ∨ p.cexc = []) ∧ p.onCp u = { u with ccc := p.ccc.getD u.ccc })
    ∨ (u.excPending = false ∧ p.cexc ≠ [] ∧ ∃ c csr, p.onCp u =
        { u with ccc := p.ccc.getD u.ccc, c, csr, queue := u.queue ++ p.cexc, excPending := true }) := by
  cases hu : u.excPending <;> cases hp : p.cexc <;> simp [Pins.onCp, cpRecognises, hu, hp]

/-! ### Fetching and late errors -/

/-- Everything a fetch can do. -/
theorem busFetch_cases (s : State) :
    (∃ w n, busFetch s = .ok w { s.afterFetch with draws := n }) ∨ busFetch s = .exception s.afterFetch := by
  have settled (k : Prop) (w : Word) (h : ∀ u, u = (if s.fetchSettled then s.afterFetch else s.afterFetch.drawn.drawn) →
      busFetch s = .ok w u) : (∃ w n, busFetch s = .ok w { s.afterFetch with draws := n }) ∨ k := by
    by_cases c : s.fetchSettled = true
    · exact .inl ⟨w, s.draws, h _ (by rw [if_pos c]; rfl)⟩
    · exact .inl ⟨w, s.draws + 1 + 1, h _ (by rw [if_neg c]; rfl)⟩
  by_cases hm : s.pins.fetchMexc = true
  · exact .inr (by simp [busFetch, hm])
  · cases hk : regionKind s.platform s.fetchAsi s.pc with
    | ram => exact settled _ s.fetchedWord (fun u hu => by simp [busFetch, hm, hk, hu])
    | rom => exact settled _ s.fetchedWord (fun u hu => by simp [busFetch, hm, hk, hu])
    | device =>
      cases hd : s.pins.fetchData with
      | none => exact .inl ⟨Config.freeWord s.draws, s.draws + 1, by simp [busFetch, hm, hk, fromDevice, hd]; rfl⟩
      | some v => exact .inl ⟨v, s.draws, by simp [busFetch, hm, hk, fromDevice, hd]; rfl⟩
    | absent => exact .inr (by simp [busFetch, hm, hk])

/-- Everything a late error can make of an instruction that leads to a next state. -/
theorem lateError_next {reported : Bool} {before t : State} {r : Result} (h : lateError reported before r = .next t) :
    ∃ u, r = .next u ∧
      (t = u
      ∨ (Event.flush ∈ u.events
        ∧ t = raiseAt before.npc (before.npc + 4#32) (.hardware .restartableLate) (supersede before u))
      ∨ (Event.flush ∉ u.events ∧ t = raiseAt u.resumePair.1 u.resumePair.2 (.hardware .restartableLate) u)) := by
  cases r with
  | fault f => cases h
  | refused f => cases h
  | next u =>
    refine ⟨u, rfl, ?_⟩
    simp only [lateError] at h
    split at h
    · exact .inl (by simpa using h.symm)
    · split at h
      · next c => exact .inr (.inl ⟨by simpa using c, by simpa using h.symm⟩)
      · next c => exact .inr (.inr ⟨by simpa using c, by simpa using h.symm⟩)

/-- Bits 1:0 of the trap handler's address are 0 (R47, R353). -/
theorem handler_aligned (tba : BitVec 20) (tt : BitVec 8) :
    (tba ++ tt ++ 0#4).extractLsb' 0 2 = 0#2 ∧ ((tba ++ tt ++ 0#4) + 4#32).extractLsb' 0 2 = 0#2 := by
  have h : (tba ++ tt ++ 0#4).extractLsb' 0 2 = 0#2 := by
    rw [BitVec.extractLsb'_append_eq_of_add_le (by decide)]; rfl
  refine ⟨h, ?_⟩
  generalize tba ++ tt ++ 0#4 = a at h
  have h := congrArg BitVec.toNat h
  apply BitVec.eq_of_toNat_eq
  simp only [BitVec.extractLsb'_toNat, BitVec.toNat_add] at h ⊢
  simp at h ⊢
  omega

end Sys2Proof.Machine
end

