-- ==== Sys2Proof/Machine/Parity.lean ====
section
/-! DEFINITION. The outputs of a bus transaction that are derived from it: parity (61_fault_tolerance.md R406, R407)
and the RD, DXFER and INST lines (62_signals.md R423, R424, R432). -/

namespace Sys2Proof.Machine

/-- The exclusive or of the low `n` bits. -/
def xorBits (w : Nat → Bool) : Nat → Bool
  | 0 => false
  | n + 1 => w n ^^ xorBits w n

/-- The odd parity bit of a group: with it, the number of ones is odd (R407). -/
def oddParity {n : Nat} (v : BitVec n) : Bool := !xorBits v.getLsbD n

/-- APAR, over the address (R406). -/
def BusCycle.apar (c : BusCycle) : Bool := oddParity c.addr

/-- ASPAR, over ASI and SIZE (R406). -/
def BusCycle.aspar (c : BusCycle) : Bool := oddParity (c.asi ++ c.size.code)

/-- DPAR, which the IU generates on stores (R406, R428). -/
def BusCycle.dpar (c : BusCycle) : Option Bool := c.data.map oddParity

/-- RD: low in the address cycles of a store only (R423). -/
def BusCycle.rd (c : BusCycle) : Bool := c.kind != .write

/-- DXFER: asserted for data transfers only (R424). -/
def BusCycle.dxfer (c : BusCycle) : Bool := c.kind != .fetch

/-- INST: asserted when an instruction is fetched (R432). -/
def BusCycle.inst (c : BusCycle) : Bool := c.kind == .fetch

end Sys2Proof.Machine
end

