-- ==== Sys2Proof/Tests/Slice0.lean ====
section
/-! SUPPORT. Tests: the smoke test of WellFormed, one written-out word for every constructor, one-step tests with the results of
95_test_vectors.md, and states that meet the hypotheses of the statements. -/

namespace Sys2Proof.Tests

open Sys2Proof.Machine

/-! ### WellFormed refuses each kind of ill-formed term -/

theorem test_wellFormed_refuses_sethi_nop : (Instr.sethi 0#5 0#22).wellFormed = false := by decide

theorem test_wellFormed_refuses_sethi_pfcheck :
    (Instr.sethi 0#5 0x1F0000#22).wellFormed = false ∧ (Instr.sethi 0#5 0x1FFFFF#22).wellFormed = false := by decide

theorem test_wellFormed_refuses_named_fpop1 : (Instr.fpop1 1#5 2#5 0b001000001#9 3#5).wellFormed = false := by decide

theorem test_wellFormed_refuses_named_fpop2 : (Instr.fpop2 1#5 2#5 0b001010001#9 3#5).wellFormed = false := by decide

theorem test_wellFormed_accepts_neighbours :
    (Instr.sethi 1#5 0#22).wellFormed = true ∧ (Instr.sethi 0#5 0x200000#22).wellFormed = true
    ∧ (Instr.sethi 0#5 0x1EFFFF#22).wellFormed = true ∧ (Instr.fpop1 1#5 2#5 0b001010001#9 3#5).wellFormed = true
    ∧ (Instr.fpop2 1#5 2#5 0b001000001#9 3#5).wellFormed = true := by decide

/-! ### Decoding: the words are the match values of the opcode table with the operands put into the fields of R91 to R94 -/

theorem test_decode_transfer :
    decode 0x7FFFFFC1#32 = .ok (.call 0x3FFFFFC1#30)
    ∧ decode 0x9DC7F2CA#32 = .ok (.jmpl 14#5 31#5 (.imm 0x12CA#13))
    ∧ decode 0x81C94003#32 = .ok (.rett 5#5 (.reg 3#5))
    ∧ decode 0xBFE08015#32 = .ok (.save 31#5 2#5 (.reg 21#5))
    ∧ decode 0x93E9F5AE#32 = .ok (.restore 9#5 7#5 (.imm 0x15AE#13)) := by
  decide

theorem test_decode_misc :
    decode 0x002ABCDE#32 = .ok (.unimp 0x2ABCDE#22)
    ∧ decode 0x313048D1#32 = .ok (.sethi 24#5 0x3048D1#22)
    ∧ decode 0x01000000#32 = .ok .nop
    ∧ decode 0x011FE272#32 = .ok (.pfcheck 0xE272#16)
    ∧ decode 0x81DF3564#32 = .ok (.iflush 28#5 (.imm 0x1564#13)) := by
  decide

theorem test_decode_bicc_1 :
    decode 0x20BFFF06#32 = .ok (.bn true 0x3FFF06#22)
    ∧ decode 0x02BFFF07#32 = .ok (.be false 0x3FFF07#22)
    ∧ decode 0x24BFFF08#32 = .ok (.ble true 0x3FFF08#22)
    ∧ decode 0x06BFFF09#32 = .ok (.bl false 0x3FFF09#22)
    ∧ decode 0x28BFFF0A#32 = .ok (.bleu true 0x3FFF0A#22)
    ∧ decode 0x0ABFFF0B#32 = .ok (.bcs false 0x3FFF0B#22)
    ∧ decode 0x2CBFFF0C#32 = .ok (.bneg true 0x3FFF0C#22)
    ∧ decode 0x0EBFFF0D#32 = .ok (.bvs false 0x3FFF0D#22) := by
  decide

theorem test_decode_bicc_2 :
    decode 0x30BFFF0E#32 = .ok (.ba true 0x3FFF0E#22)
    ∧ decode 0x12BFFF0F#32 = .ok (.bne false 0x3FFF0F#22)
    ∧ decode 0x34BFFF10#32 = .ok (.bg true 0x3FFF10#22)
    ∧ decode 0x16BFFF11#32 = .ok (.bge false 0x3FFF11#22)
    ∧ decode 0x38BFFF12#32 = .ok (.bgu true 0x3FFF12#22)
    ∧ decode 0x1ABFFF13#32 = .ok (.bcc false 0x3FFF13#22)
    ∧ decode 0x3CBFFF14#32 = .ok (.bpos true 0x3FFF14#22)
    ∧ decode 0x1EBFFF15#32 = .ok (.bvc false 0x3FFF15#22) := by
  decide

theorem test_decode_fbfcc_1 :
    decode 0x21BFFF16#32 = .ok (.fbn true 0x3FFF16#22)
    ∧ decode 0x03BFFF17#32 = .ok (.fbne false 0x3FFF17#22)
    ∧ decode 0x25BFFF18#32 = .ok (.fblg true 0x3FFF18#22)
    ∧ decode 0x07BFFF19#32 = .ok (.fbul false 0x3FFF19#22)
    ∧ decode 0x29BFFF1A#32 = .ok (.fbl true 0x3FFF1A#22)
    ∧ decode 0x0BBFFF1B#32 = .ok (.fbug false 0x3FFF1B#22)
    ∧ decode 0x2DBFFF1C#32 = .ok (.fbg true 0x3FFF1C#22)
    ∧ decode 0x0FBFFF1D#32 = .ok (.fbu false 0x3FFF1D#22) := by
  decide

theorem test_decode_fbfcc_2 :
    decode 0x31BFFF1E#32 = .ok (.fba true 0x3FFF1E#22)
    ∧ decode 0x13BFFF1F#32 = .ok (.fbe false 0x3FFF1F#22)
    ∧ decode 0x35BFFF20#32 = .ok (.fbue true 0x3FFF20#22)
    ∧ decode 0x17BFFF21#32 = .ok (.fbge false 0x3FFF21#22)
    ∧ decode 0x39BFFF22#32 = .ok (.fbuge true 0x3FFF22#22)
    ∧ decode 0x1BBFFF23#32 = .ok (.fble false 0x3FFF23#22)
    ∧ decode 0x3DBFFF24#32 = .ok (.fbule true 0x3FFF24#22)
    ∧ decode 0x1FBFFF25#32 = .ok (.fbo false 0x3FFF25#22) := by
  decide

theorem test_decode_cbccc_1 :
    decode 0x21FFFF26#32 = .ok (.cbn true 0x3FFF26#22)
    ∧ decode 0x03FFFF27#32 = .ok (.cb123 false 0x3FFF27#22)
    ∧ decode 0x25FFFF28#32 = .ok (.cb12 true 0x3FFF28#22)
    ∧ decode 0x07FFFF29#32 = .ok (.cb13 false 0x3FFF29#22)
    ∧ decode 0x29FFFF2A#32 = .ok (.cb1 true 0x3FFF2A#22)
    ∧ decode 0x0BFFFF2B#32 = .ok (.cb23 false 0x3FFF2B#22)
    ∧ decode 0x2DFFFF2C#32 = .ok (.cb2 true 0x3FFF2C#22)
    ∧ decode 0x0FFFFF2D#32 = .ok (.cb3 false 0x3FFF2D#22) := by
  decide

theorem test_decode_cbccc_2 :
    decode 0x31FFFF2E#32 = .ok (.cba true 0x3FFF2E#22)
    ∧ decode 0x13FFFF2F#32 = .ok (.cb0 false 0x3FFF2F#22)
    ∧ decode 0x35FFFF30#32 = .ok (.cb03 true 0x3FFF30#22)
    ∧ decode 0x17FFFF31#32 = .ok (.cb02 false 0x3FFF31#22)
    ∧ decode 0x39FFFF32#32 = .ok (.cb023 true 0x3FFF32#22)
    ∧ decode 0x1BFFFF33#32 = .ok (.cb01 false 0x3FFF33#22)
    ∧ decode 0x3DFFFF34#32 = .ok (.cb013 true 0x3FFF34#22)
    ∧ decode 0x1FFFFF35#32 = .ok (.cb012 false 0x3FFF35#22) := by
  decide

theorem test_decode_arith_1 :
    decode 0x8805F7CE#32 = .ok (.add 4#5 23#5 (.imm 0x17CE#13))
    ∧ decode 0x86233862#32 = .ok (.sub 3#5 12#5 (.imm 0x1862#13))
    ∧ decode 0xBE4078F6#32 = .ok (.addx 31#5 1#5 (.imm 0x18F6#13))
    ∧ decode 0x92618005#32 = .ok (.subx 9#5 6#5 (.reg 5#5))
    ∧ decode 0xA082F940#32 = .ok (.addcc 16#5 11#5 (.imm 0x1940#13))
    ∧ decode 0x9EA7F9D4#32 = .ok (.subcc 15#5 31#5 (.imm 0x19D4#13))
    ∧ decode 0x9CC53A68#32 = .ok (.addxcc 14#5 20#5 (.imm 0x1A68#13))
    ∧ decode 0xAAE64019#32 = .ok (.subxcc 21#5 25#5 (.reg 25#5)) := by
  decide

theorem test_decode_arith_2 :
    decode 0xB907BAB2#32 = .ok (.taddcc 28#5 30#5 (.imm 0x1AB2#13))
    ∧ decode 0x8D090011#32 = .ok (.tsubcc 6#5 4#5 (.reg 17#5))
    ∧ decode 0x9B127AFC#32 = .ok (.taddcctv 13#5 9#5 (.imm 0x1AFC#13))
    ∧ decode 0xA91B8009#32 = .ok (.tsubcctv 20#5 14#5 (.reg 9#5))
    ∧ decode 0xB724FB46#32 = .ok (.mulscc 27#5 19#5 (.imm 0x1B46#13)) := by
  decide

theorem test_decode_logic_1 :
    decode 0x960F0007#32 = .ok (.and 11#5 28#5 (.reg 7#5))
    ∧ decode 0xA410B818#32 = .ok (.or 18#5 2#5 (.imm 0x1818#13))
    ∧ decode 0xB219C01D#32 = .ok (.xor 25#5 7#5 (.reg 29#5))
    ∧ decode 0x942C4015#32 = .ok (.andn 10#5 17#5 (.reg 21#5))
    ∧ decode 0xA235B8AC#32 = .ok (.orn 17#5 22#5 (.imm 0x18AC#13))
    ∧ decode 0xB03EC00D#32 = .ok (.xnor 24#5 27#5 (.reg 13#5))
    ∧ decode 0xAE8C001B#32 = .ok (.andcc 23#5 16#5 (.reg 27#5))
    ∧ decode 0xBC95798A#32 = .ok (.orcc 30#5 21#5 (.imm 0x198A#13)) := by
  decide

theorem test_decode_logic_2 :
    decode 0x909E8013#32 = .ok (.xorcc 8#5 26#5 (.reg 19#5))
    ∧ decode 0xACA9400B#32 = .ok (.andncc 22#5 5#5 (.reg 11#5))
    ∧ decode 0xBAB2BA1E#32 = .ok (.orncc 29#5 10#5 (.imm 0x1A1E#13))
    ∧ decode 0x8EBBC003#32 = .ok (.xnorcc 7#5 15#5 (.reg 3#5)) := by
  decide

theorem test_decode_shift :
    decode 0x8B2E001F#32 = .ok (.sll 5#5 24#5 (.reg 31#5))
    ∧ decode 0x99376010#32 = .ok (.srl 12#5 29#5 (.imm 16#5))
    ∧ decode 0xA738C017#32 = .ok (.sra 19#5 3#5 (.reg 23#5)) := by
  decide

theorem test_decode_control_registers :
    decode 0xB5400000#32 = .ok (.rdy 26#5)
    ∧ decode 0x89480000#32 = .ok (.rdpsr 4#5)
    ∧ decode 0x97500000#32 = .ok (.rdwim 11#5)
    ∧ decode 0xA5580000#32 = .ok (.rdtbr 18#5)
    ∧ decode 0x81873C6E#32 = .ok (.wry 28#5 (.imm 0x1C6E#13))
    ∧ decode 0x8188801D#32 = .ok (.wrpsr 2#5 (.reg 29#5))
    ∧ decode 0x8191FCB8#32 = .ok (.wrwim 7#5 (.imm 0x1CB8#13))
    ∧ decode 0x819B0015#32 = .ok (.wrtbr 12#5 (.reg 21#5)) := by
  decide

theorem test_decode_fpop_1 :
    decode 0xB1A00022#32 = .ok (.fmovs 24#5 2#5)
    ∧ decode 0xBFA000AD#32 = .ok (.fnegs 31#5 13#5)
    ∧ decode 0x93A00138#32 = .ok (.fabss 9#5 24#5)
    ∧ decode 0xA1A00525#32 = .ok (.fsqrts 16#5 5#5)
    ∧ decode 0xAFA00550#32 = .ok (.fsqrtd 23#5 16#5)
    ∧ decode 0xBDA0057B#32 = .ok (.fsqrtx 30#5 27#5)
    ∧ decode 0x91A40828#32 = .ok (.fadds 8#5 16#5 8#5)
    ∧ decode 0x9FA54853#32 = .ok (.faddd 15#5 21#5 19#5) := by
  decide

theorem test_decode_fpop_2 :
    decode 0xADA6887E#32 = .ok (.faddx 22#5 26#5 30#5)
    ∧ decode 0xBBA7C8AB#32 = .ok (.fsubs 29#5 31#5 11#5)
    ∧ decode 0x8FA148D6#32 = .ok (.fsubd 7#5 5#5 22#5)
    ∧ decode 0x9DA288E3#32 = .ok (.fsubx 14#5 10#5 3#5)
    ∧ decode 0xABA3C92E#32 = .ok (.fmuls 21#5 15#5 14#5)
    ∧ decode 0xB9A50959#32 = .ok (.fmuld 28#5 20#5 25#5)
    ∧ decode 0x8DA64966#32 = .ok (.fmulx 6#5 25#5 6#5)
    ∧ decode 0x9BA789B1#32 = .ok (.fdivs 13#5 30#5 17#5) := by
  decide

theorem test_decode_fpop_3 :
    decode 0xA9A109DC#32 = .ok (.fdivd 20#5 4#5 28#5)
    ∧ decode 0xB7A249E9#32 = .ok (.fdivx 27#5 9#5 9#5)
    ∧ decode 0x8BA01894#32 = .ok (.fitos 5#5 20#5)
    ∧ decode 0x99A018DF#32 = .ok (.fdtos 12#5 31#5)
    ∧ decode 0xA7A018EC#32 = .ok (.fxtos 19#5 12#5)
    ∧ decode 0xB5A01917#32 = .ok (.fitod 26#5 23#5)
    ∧ decode 0x89A01924#32 = .ok (.fstod 4#5 4#5)
    ∧ decode 0x97A0196F#32 = .ok (.fxtod 11#5 15#5) := by
  decide

theorem test_decode_fpop_4 :
    decode 0xA5A0199A#32 = .ok (.fitox 18#5 26#5)
    ∧ decode 0xB3A019A7#32 = .ok (.fstox 25#5 7#5)
    ∧ decode 0x87A019D2#32 = .ok (.fdtox 3#5 18#5)
    ∧ decode 0x95A01A3D#32 = .ok (.fstoi 10#5 29#5)
    ∧ decode 0xA3A01A4A#32 = .ok (.fdtoi 17#5 10#5)
    ∧ decode 0xB1A01A75#32 = .ok (.fxtoi 24#5 21#5)
    ∧ decode 0x81AB0A22#32 = .ok (.fcmps 12#5 2#5)
    ∧ decode 0x81AC4A4D#32 = .ok (.fcmpd 17#5 13#5) := by
  decide

theorem test_decode_fpop_5 :
    decode 0x81AD8A78#32 = .ok (.fcmpx 22#5 24#5)
    ∧ decode 0x81AECAA5#32 = .ok (.fcmpes 27#5 5#5)
    ∧ decode 0x81A84AD0#32 = .ok (.fcmped 1#5 16#5)
    ∧ decode 0x81A98AFB#32 = .ok (.fcmpex 6#5 27#5)
    ∧ decode 0x9FA2EAA8#32 = .ok (.fpop1 15#5 11#5 0x155#9 8#5)
    ∧ decode 0xADAC2AB3#32 = .ok (.fpop2 22#5 16#5 0x155#9 19#5) := by
  decide

theorem test_decode_cpop :
    decode 0xBBB56ABE#32 = .ok (.cpop1 29#5 21#5 0x155#9 30#5)
    ∧ decode 0x8FBEAAAB#32 = .ok (.cpop2 7#5 26#5 0x155#9 11#5) := by
  decide

theorem test_decode_ticc_1 :
    decode 0x81D2B314#32 = .ok (.tn 10#5 (.imm 0x1314#13))
    ∧ decode 0x83D3C019#32 = .ok (.te 15#5 (.reg 25#5))
    ∧ decode 0x85D5335E#32 = .ok (.tle 20#5 (.imm 0x135E#13))
    ∧ decode 0x87D64011#32 = .ok (.tl 25#5 (.reg 17#5))
    ∧ decode 0x89D7B3A8#32 = .ok (.tleu 30#5 (.imm 0x13A8#13))
    ∧ decode 0x8BD10009#32 = .ok (.tcs 4#5 (.reg 9#5))
    ∧ decode 0x8DD273F2#32 = .ok (.tneg 9#5 (.imm 0x13F2#13))
    ∧ decode 0x8FD3801F#32 = .ok (.tvs 14#5 (.reg 31#5)) := by
  decide

theorem test_decode_ticc_2 :
    decode 0x91D4F43C#32 = .ok (.ta 19#5 (.imm 0x143C#13))
    ∧ decode 0x93D60017#32 = .ok (.tne 24#5 (.reg 23#5))
    ∧ decode 0x95D77486#32 = .ok (.tg 29#5 (.imm 0x1486#13))
    ∧ decode 0x97D0C00F#32 = .ok (.tge 3#5 (.reg 15#5))
    ∧ decode 0x99D234D0#32 = .ok (.tgu 8#5 (.imm 0x14D0#13))
    ∧ decode 0x9BD34007#32 = .ok (.tcc 13#5 (.reg 7#5))
    ∧ decode 0x9DD4B51A#32 = .ok (.tpos 18#5 (.imm 0x151A#13))
    ∧ decode 0x9FD5C01D#32 = .ok (.tvc 23#5 (.reg 29#5)) := by
  decide

theorem test_decode_memory_1 :
    decode 0xE003000D#32 = .ok (.ld 16#5 12#5 (.reg 13#5))
    ∧ decode 0xEE0C75F8#32 = .ok (.ldub 23#5 17#5 (.imm 0x15F8#13))
    ∧ decode 0xFC158005#32 = .ok (.lduh 30#5 22#5 (.reg 5#5))
    ∧ decode 0xD01EF642#32 = .ok (.ldd 8#5 27#5 (.imm 0x1642#13))
    ∧ decode 0xDE20401B#32 = .ok (.st 15#5 1#5 (.reg 27#5))
    ∧ decode 0xEC29B68C#32 = .ok (.stb 22#5 6#5 (.imm 0x168C#13))
    ∧ decode 0xFA32C013#32 = .ok (.sth 29#5 11#5 (.reg 19#5))
    ∧ decode 0xCE3C36D6#32 = .ok (.std 7#5 16#5 (.imm 0x16D6#13)) := by
  decide

theorem test_decode_memory_2 :
    decode 0xDC4D400B#32 = .ok (.ldsb 14#5 21#5 (.reg 11#5))
    ∧ decode 0xEA56B720#32 = .ok (.ldsh 21#5 26#5 (.imm 0x1720#13))
    ∧ decode 0xF86FC003#32 = .ok (.ldstub 28#5 31#5 (.reg 3#5))
    ∧ decode 0xCC79776A#32 = .ok (.swap 6#5 5#5 (.imm 0x176A#13)) := by
  decide

theorem test_decode_alternate_1 :
    decode 0xDA828B59#32 = .ok (.lda 13#5 10#5 25#5 0x5A#8)
    ∧ decode 0xE88BCB46#32 = .ok (.lduba 20#5 15#5 6#5 0x5A#8)
    ∧ decode 0xF6950B51#32 = .ok (.lduha 27#5 20#5 17#5 0x5A#8)
    ∧ decode 0xCA9E4B5C#32 = .ok (.ldda 5#5 25#5 28#5 0x5A#8)
    ∧ decode 0xD8A78B49#32 = .ok (.sta 12#5 30#5 9#5 0x5A#8)
    ∧ decode 0xE6A90B54#32 = .ok (.stba 19#5 4#5 20#5 0x5A#8)
    ∧ decode 0xF4B24B5F#32 = .ok (.stha 26#5 9#5 31#5 0x5A#8)
    ∧ decode 0xC8BB8B4C#32 = .ok (.stda 4#5 14#5 12#5 0x5A#8) := by
  decide

theorem test_decode_alternate_2 :
    decode 0xD6CCCB57#32 = .ok (.ldsba 11#5 19#5 23#5 0x5A#8)
    ∧ decode 0xE4D60B44#32 = .ok (.ldsha 18#5 24#5 4#5 0x5A#8)
    ∧ decode 0xF2EF4B4F#32 = .ok (.ldstuba 25#5 29#5 15#5 0x5A#8)
    ∧ decode 0xC6F8CB5A#32 = .ok (.swapa 3#5 3#5 26#5 0x5A#8) := by
  decide

theorem test_decode_fp_memory :
    decode 0xD5020007#32 = .ok (.ldf 10#5 8#5 (.reg 7#5))
    ∧ decode 0xC10B7970#32 = .ok (.ldfsr 13#5 (.imm 0x1970#13))
    ∧ decode 0xF11C801D#32 = .ok (.lddf 24#5 18#5 (.reg 29#5))
    ∧ decode 0xFF25F9BA#32 = .ok (.stf 31#5 23#5 (.imm 0x19BA#13))
    ∧ decode 0xC12F0015#32 = .ok (.stfsr 28#5 (.reg 21#5))
    ∧ decode 0xC130BA04#32 = .ok (.stdfq 2#5 (.imm 0x1A04#13))
    ∧ decode 0xEF39C00D#32 = .ok (.stdf 23#5 7#5 (.reg 13#5)) := by
  decide

theorem test_decode_cp_memory :
    decode 0xFD833A4E#32 = .ok (.ldc 30#5 12#5 (.imm 0x1A4E#13))
    ∧ decode 0xC18C4005#32 = .ok (.ldcsr 17#5 (.reg 5#5))
    ∧ decode 0xDF9DBA98#32 = .ok (.lddc 15#5 22#5 (.imm 0x1A98#13))
    ∧ decode 0xEDA6C01B#32 = .ok (.stc 22#5 27#5 (.reg 27#5))
    ∧ decode 0xC1A87AE2#32 = .ok (.stcsr 1#5 (.imm 0x1AE2#13))
    ∧ decode 0xC1B18013#32 = .ok (.stdcq 6#5 (.reg 19#5))
    ∧ decode 0xDDBAFB2C#32 = .ok (.stdc 14#5 11#5 (.imm 0x1B2C#13)) := by
  decide

/-- Reserved words (R108) and the examples of 95_test_vectors.md part 6. -/
theorem test_decode_refuses_reserved :
    decode 0x00400000#32 = .error (.reservedOp2 1#3) ∧ decode 0x00C00000#32 = .error (.reservedOp2 3#3)
    ∧ decode 0x01400000#32 = .error (.reservedOp2 5#3) ∧ decode 0x86484002#32 = .error (.reservedOp3 2#2 0b001001#6)
    ∧ decode 0x87604002#32 = .error (.reservedOp3 2#2 0b101100#6) ∧ decode 0xC6404002#32 = .error (.reservedOp3 3#2 0b001000#6)
    ∧ decode 0xC7F84002#32 = .error (.reservedOp3 3#2 0b111111#6)
    ∧ decode 0xC6806004#32 = .error (.alternateImmediate 0b010000#6) := by decide

/-- Ignored bits (R106): bits 29:25 of UNIMP, bits 12:5 with i = 0. -/
theorem test_decode_ignores_bits :
    decode 0x3E000015#32 = .ok (.unimp 0x15#22) ∧ decode 0x86004FE2#32 = .ok (.add 3#5 1#5 (.reg 2#5)) := by decide

theorem test_decodeTableWord : decodeTableWord 32 0x86004002 = some (.add 3#5 1#5 (.reg 2#5)) ∧ decodeTableWord 32 0x00400000 = none := by
  decide

/-! ### One step: the rows of 95_test_vectors.md -/

/-- The state the vectors start from: supervisor mode, ET = 1, window 0, TBA = 0x40000, PC = 0x1000. -/
def start : State :=
  { State.reset with pc := 0x1000#32, npc := 0x1004#32, tba := 0x40000#20, psr := { initialPsr with et := true } }

/-- `s` with r[1] and r[2] written. -/
def withRegs (a b : Word) (s : State) : State := (s.setReg 1#5 a).setReg 2#5 b

/-- icc from N Z V C. -/
def icc (b : BitVec 4) : Icc := { n := b.getLsbD 3, z := b.getLsbD 2, v := b.getLsbD 1, c := b.getLsbD 0 }

/-- `start` with the memory and the registers of part 3. -/
def vectors : State :=
  (((withRegs 0x2000#32 4#32 { start with
      mem := writeCells [] (cellsAt Region.flatRam 0x0B#8 0x2000#32
        (bytesOfWord 0x80017FFE#32 ++ bytesOfWord 0x12345678#32 ++ bytesOfWord 0x9ABCDEF0#32)) }).setReg 3#5 0xAABBCCDD#32).setReg
    8#5 0x11111111#32).setReg 9#5 0x22222222#32

/-- `start` with both units attached and enabled. -/
def equipped : State :=
  { start with
    cfg := { Config.ordinary with fpPresent := true, cpPresent := true }
    psr := { start.psr with ef := true, ec := true } }

/-- The word, run at PC, gives a next state that passes the check. -/
def leaves (w : Word) (s : State) (check : State → Bool) : Bool :=
  match runWord exec w s with
  | .next t => check t
  | .fault _ => false
  | .refused _ => false

/-- The next step gives a next state that passes the check. -/
def steps (s : State) (check : State → Bool) : Bool :=
  match step s with
  | .next t => check t
  | .fault _ => false
  | .refused _ => false

theorem test_add_1 : leaves 0x86004002#32 (withRegs 0xFFFFFFFF#32 0x00000001#32 start) (fun t =>
    t.regIn 0#3 3#5 == 0x00000000#32 && t.psr.icc == icc 0b0000#4 && t.pc == 0x1004#32) = true := by decide

theorem test_add_2 : leaves 0x86007FFF#32 (withRegs 0x00000005#32 0#32 (start.setIcc (icc 0b1111#4))) (fun t =>
    t.regIn 0#3 3#5 == 0x00000004#32 && t.psr.icc == icc 0b1111#4 && t.pc == 0x1004#32) = true := by decide

theorem test_addcc_1 : leaves 0x86804002#32 (withRegs 0x7FFFFFFF#32 0x00000001#32 start) (fun t =>
    t.regIn 0#3 3#5 == 0x80000000#32 && t.psr.icc == icc 0b1010#4 && t.pc == 0x1004#32) = true := by decide

theorem test_addcc_2 : leaves 0x86804002#32 (withRegs 0xFFFFFFFF#32 0x00000001#32 start) (fun t =>
    t.regIn 0#3 3#5 == 0x00000000#32 && t.psr.icc == icc 0b0101#4 && t.pc == 0x1004#32) = true := by decide

theorem test_addx_1 : leaves 0x86404002#32 (withRegs 0x00000001#32 0x00000002#32 (start.setIcc (icc 0b0001#4))) (fun t =>
    t.regIn 0#3 3#5 == 0x00000004#32 && t.psr.icc == icc 0b0001#4 && t.pc == 0x1004#32) = true := by decide

theorem test_addx_2 : leaves 0x86404002#32 (withRegs 0x00000001#32 0x00000002#32 start) (fun t =>
    t.regIn 0#3 3#5 == 0x00000003#32 && t.psr.icc == icc 0b0000#4 && t.pc == 0x1004#32) = true := by decide

theorem test_addxcc_1 : leaves 0x86C04002#32 (withRegs 0xFFFFFFFF#32 0x00000000#32 (start.setIcc (icc 0b0001#4))) (fun t =>
    t.regIn 0#3 3#5 == 0x00000000#32 && t.psr.icc == icc 0b0101#4 && t.pc == 0x1004#32) = true := by decide

theorem test_addxcc_2 : leaves 0x86C04002#32 (withRegs 0x7FFFFFFF#32 0x00000000#32 (start.setIcc (icc 0b0001#4))) (fun t =>
    t.regIn 0#3 3#5 == 0x80000000#32 && t.psr.icc == icc 0b1010#4 && t.pc == 0x1004#32) = true := by decide

theorem test_sub_1 : leaves 0x86204002#32 (withRegs 0x00000000#32 0x00000001#32 start) (fun t =>
    t.regIn 0#3 3#5 == 0xFFFFFFFF#32 && t.psr.icc == icc 0b0000#4 && t.pc == 0x1004#32) = true := by decide

theorem test_subcc_1 : leaves 0x86A04002#32 (withRegs 0x00000000#32 0x00000001#32 start) (fun t =>
    t.regIn 0#3 3#5 == 0xFFFFFFFF#32 && t.psr.icc == icc 0b1001#4 && t.pc == 0x1004#32) = true := by decide

theorem test_subcc_2 : leaves 0x86A04002#32 (withRegs 0x80000000#32 0x00000001#32 start) (fun t =>
    t.regIn 0#3 3#5 == 0x7FFFFFFF#32 && t.psr.icc == icc 0b0010#4 && t.pc == 0x1004#32) = true := by decide

theorem test_subx_1 : leaves 0x86604002#32 (withRegs 0x00000005#32 0x00000002#32 (start.setIcc (icc 0b0001#4))) (fun t =>
    t.regIn 0#3 3#5 == 0x00000002#32 && t.psr.icc == icc 0b0001#4 && t.pc == 0x1004#32) = true := by decide

theorem test_subxcc_1 : leaves 0x86E04002#32 (withRegs 0x00000000#32 0x00000000#32 (start.setIcc (icc 0b0001#4))) (fun t =>
    t.regIn 0#3 3#5 == 0xFFFFFFFF#32 && t.psr.icc == icc 0b1001#4 && t.pc == 0x1004#32) = true := by decide

theorem test_subxcc_2 : leaves 0x86E04002#32 (withRegs 0x80000000#32 0x00000000#32 (start.setIcc (icc 0b0001#4))) (fun t =>
    t.regIn 0#3 3#5 == 0x7FFFFFFF#32 && t.psr.icc == icc 0b0010#4 && t.pc == 0x1004#32) = true := by decide

theorem test_taddcc_1 : leaves 0x87004002#32 (withRegs 0x00000004#32 0x00000008#32 start) (fun t =>
    t.regIn 0#3 3#5 == 0x0000000C#32 && t.psr.icc == icc 0b0000#4 && t.pc == 0x1004#32) = true := by decide

theorem test_taddcc_2 : leaves 0x87004002#32 (withRegs 0x00000005#32 0x00000008#32 start) (fun t =>
    t.regIn 0#3 3#5 == 0x0000000D#32 && t.psr.icc == icc 0b0010#4 && t.pc == 0x1004#32) = true := by decide

theorem test_tsubcc_1 : leaves 0x87084002#32 (withRegs 0x0000000C#32 0x00000004#32 start) (fun t =>
    t.regIn 0#3 3#5 == 0x00000008#32 && t.psr.icc == icc 0b0000#4 && t.pc == 0x1004#32) = true := by decide

theorem test_tsubcc_2 : leaves 0x87084002#32 (withRegs 0x0000000C#32 0x00000003#32 start) (fun t =>
    t.regIn 0#3 3#5 == 0x00000009#32 && t.psr.icc == icc 0b0010#4 && t.pc == 0x1004#32) = true := by decide

theorem test_taddcctv_1 : leaves 0x87104002#32 (withRegs 0x00000004#32 0x00000008#32 (start.setIcc (icc 0b1111#4))) (fun t =>
    t.regIn 0#3 3#5 == 0x0000000C#32 && t.psr.icc == icc 0b0000#4 && t.pc == 0x1004#32) = true := by decide

theorem test_taddcctv_2 : leaves 0x87104002#32 (withRegs 0x00000005#32 0x00000008#32 (start.setIcc (icc 0b1111#4))) (fun t =>
    t.regIn 0#3 3#5 == 0x00000000#32 && t.psr.icc == icc 0b1111#4 && t.pc == 0x400000A0#32) = true := by decide

theorem test_tsubcctv_1 : leaves 0x87184002#32 (withRegs 0x0000000C#32 0x00000004#32 start) (fun t =>
    t.regIn 0#3 3#5 == 0x00000008#32 && t.psr.icc == icc 0b0000#4 && t.pc == 0x1004#32) = true := by decide

theorem test_tsubcctv_2 : leaves 0x87184002#32 (withRegs 0x0000000C#32 0x00000001#32 (start.setIcc (icc 0b0101#4))) (fun t =>
    t.regIn 0#3 3#5 == 0x00000000#32 && t.psr.icc == icc 0b0101#4 && t.pc == 0x400000A0#32) = true := by decide

theorem test_and_1 : leaves 0x86084002#32 (withRegs 0xFF00FF00#32 0x0FF00FF0#32 start) (fun t =>
    t.regIn 0#3 3#5 == 0x0F000F00#32 && t.psr.icc == icc 0b0000#4 && t.pc == 0x1004#32) = true := by decide

theorem test_andcc_1 : leaves 0x86884002#32 (withRegs 0x000000F0#32 0x0000000F#32 (start.setIcc (icc 0b1011#4))) (fun t =>
    t.regIn 0#3 3#5 == 0x00000000#32 && t.psr.icc == icc 0b0100#4 && t.pc == 0x1004#32) = true := by decide

theorem test_andn_1 : leaves 0x86284002#32 (withRegs 0x000000FF#32 0x0000000F#32 start) (fun t =>
    t.regIn 0#3 3#5 == 0x000000F0#32 && t.psr.icc == icc 0b0000#4 && t.pc == 0x1004#32) = true := by decide

theorem test_andncc_1 : leaves 0x86A84002#32 (withRegs 0x80000000#32 0x00000000#32 (start.setIcc (icc 0b0011#4))) (fun t =>
    t.regIn 0#3 3#5 == 0x80000000#32 && t.psr.icc == icc 0b1000#4 && t.pc == 0x1004#32) = true := by decide

theorem test_or_1 : leaves 0x86104002#32 (withRegs 0x000000F0#32 0x0000000F#32 start) (fun t =>
    t.regIn 0#3 3#5 == 0x000000FF#32 && t.psr.icc == icc 0b0000#4 && t.pc == 0x1004#32) = true := by decide

theorem test_orcc_1 : leaves 0x86904002#32 (withRegs 0x00000000#32 0x00000000#32 (start.setIcc (icc 0b1011#4))) (fun t =>
    t.regIn 0#3 3#5 == 0x00000000#32 && t.psr.icc == icc 0b0100#4 && t.pc == 0x1004#32) = true := by decide

theorem test_orn_1 : leaves 0x86304002#32 (withRegs 0x00000000#32 0xFFFFFFF0#32 start) (fun t =>
    t.regIn 0#3 3#5 == 0x0000000F#32 && t.psr.icc == icc 0b0000#4 && t.pc == 0x1004#32) = true := by decide

theorem test_orncc_1 : leaves 0x86B04002#32 (withRegs 0x00000000#32 0x00000000#32 start) (fun t =>
    t.regIn 0#3 3#5 == 0xFFFFFFFF#32 && t.psr.icc == icc 0b1000#4 && t.pc == 0x1004#32) = true := by decide

theorem test_xor_1 : leaves 0x86184002#32 (withRegs 0x000000FF#32 0x0000000F#32 start) (fun t =>
    t.regIn 0#3 3#5 == 0x000000F0#32 && t.psr.icc == icc 0b0000#4 && t.pc == 0x1004#32) = true := by decide

theorem test_xorcc_1 : leaves 0x86984002#32 (withRegs 0x00000055#32 0x00000055#32 start) (fun t =>
    t.regIn 0#3 3#5 == 0x00000000#32 && t.psr.icc == icc 0b0100#4 && t.pc == 0x1004#32) = true := by decide

theorem test_xnor_1 : leaves 0x86384002#32 (withRegs 0x000000FF#32 0x0000000F#32 start) (fun t =>
    t.regIn 0#3 3#5 == 0xFFFFFF0F#32 && t.psr.icc == icc 0b0000#4 && t.pc == 0x1004#32) = true := by decide

theorem test_xnorcc_1 : leaves 0x86B84002#32 (withRegs 0x00000000#32 0xFFFFFFFF#32 start) (fun t =>
    t.regIn 0#3 3#5 == 0x00000000#32 && t.psr.icc == icc 0b0100#4 && t.pc == 0x1004#32) = true := by decide

theorem test_xor_2 : leaves 0x86187FFF#32 (withRegs 0x12345678#32 0#32 start) (fun t =>
    t.regIn 0#3 3#5 == 0xEDCBA987#32 && t.psr.icc == icc 0b0000#4 && t.pc == 0x1004#32) = true := by decide

theorem test_sll_1 : leaves 0x87284002#32 (withRegs 0x00000001#32 0x0000001F#32 start) (fun t =>
    t.regIn 0#3 3#5 == 0x80000000#32 && t.psr.icc == icc 0b0000#4 && t.pc == 0x1004#32) = true := by decide

theorem test_sll_2 : leaves 0x87284002#32 (withRegs 0x00000001#32 0x00000020#32 start) (fun t =>
    t.regIn 0#3 3#5 == 0x00000001#32 && t.psr.icc == icc 0b0000#4 && t.pc == 0x1004#32) = true := by decide

theorem test_srl_1 : leaves 0x87304002#32 (withRegs 0x80000000#32 0x0000001F#32 start) (fun t =>
    t.regIn 0#3 3#5 == 0x00000001#32 && t.psr.icc == icc 0b0000#4 && t.pc == 0x1004#32) = true := by decide

theorem test_srl_2 : leaves 0x87304002#32 (withRegs 0x80000000#32 0x0000003F#32 start) (fun t =>
    t.regIn 0#3 3#5 == 0x00000001#32 && t.psr.icc == icc 0b0000#4 && t.pc == 0x1004#32) = true := by decide

theorem test_sra_1 : leaves 0x87384002#32 (withRegs 0x80000000#32 0x0000001F#32 start) (fun t =>
    t.regIn 0#3 3#5 == 0xFFFFFFFF#32 && t.psr.icc == icc 0b0000#4 && t.pc == 0x1004#32) = true := by decide

theorem test_sra_2 : leaves 0x87384002#32 (withRegs 0x40000000#32 0x0000001E#32 start) (fun t =>
    t.regIn 0#3 3#5 == 0x00000001#32 && t.psr.icc == icc 0b0000#4 && t.pc == 0x1004#32) = true := by decide

theorem test_mulscc_1 : leaves 0x87204002#32 { withRegs 0x00000000#32 0x00000003#32 start with y := 0x00000005#32 } (fun t =>
    t.regIn 0#3 3#5 == 0x00000003#32 && t.psr.icc == icc 0b0000#4 && t.pc == 0x1004#32 && t.y == 0x00000002#32) = true := by decide

theorem test_mulscc_2 : leaves 0x87204002#32 { withRegs 0x00000000#32 0x00000003#32 start with y := 0x00000004#32 } (fun t =>
    t.regIn 0#3 3#5 == 0x00000000#32 && t.psr.icc == icc 0b0100#4 && t.pc == 0x1004#32 && t.y == 0x00000002#32) = true := by decide

theorem test_ldsb_1 : leaves 0xC6486000#32 vectors (fun t =>
    t.reg 3#5 == 0xFFFFFF80#32 && t.pc == 0x1004#32) = true := by decide

theorem test_ldub_1 : leaves 0xC6086000#32 vectors (fun t =>
    t.reg 3#5 == 0x00000080#32 && t.pc == 0x1004#32) = true := by decide

theorem test_ldsb_2 : leaves 0xC6486002#32 vectors (fun t =>
    t.reg 3#5 == 0x0000007F#32 && t.pc == 0x1004#32) = true := by decide

theorem test_ldub_2 : leaves 0xC6086001#32 vectors (fun t =>
    t.reg 3#5 == 0x00000001#32 && t.pc == 0x1004#32) = true := by decide

theorem test_ldsh_1 : leaves 0xC6506000#32 vectors (fun t =>
    t.reg 3#5 == 0xFFFF8001#32 && t.pc == 0x1004#32) = true := by decide

theorem test_lduh_1 : leaves 0xC6106000#32 vectors (fun t =>
    t.reg 3#5 == 0x00008001#32 && t.pc == 0x1004#32) = true := by decide

theorem test_ldsh_2 : leaves 0xC6506002#32 vectors (fun t =>
    t.reg 3#5 == 0x00007FFE#32 && t.pc == 0x1004#32) = true := by decide

theorem test_ld_1 : leaves 0xC6004002#32 vectors (fun t =>
    t.reg 3#5 == 0x12345678#32 && t.pc == 0x1004#32) = true := by decide

theorem test_ld_2 : leaves 0xC6006002#32 vectors (fun t =>
    t.pc == 0x40000070#32) = true := by decide

theorem test_lduh_2 : leaves 0xC6106001#32 vectors (fun t =>
    t.pc == 0x40000070#32) = true := by decide

theorem test_ldd_1 : leaves 0xD0186000#32 vectors (fun t =>
    t.reg 8#5 == 0x80017FFE#32 && t.reg 9#5 == 0x12345678#32 && t.pc == 0x1004#32) = true := by decide

theorem test_ldd_2 : leaves 0xD2186000#32 vectors (fun t =>
    t.reg 8#5 == 0x80017FFE#32 && t.reg 9#5 == 0x12345678#32 && t.pc == 0x1004#32) = true := by decide

theorem test_stb_1 : leaves 0xC6286001#32 vectors (fun t =>
    t.wordAt 0x0B#8 0x2000#32 == 0x80DD7FFE#32 && t.pc == 0x1004#32) = true := by decide

theorem test_sth_1 : leaves 0xC6306002#32 vectors (fun t =>
    t.wordAt 0x0B#8 0x2000#32 == 0x8001CCDD#32 && t.pc == 0x1004#32) = true := by decide

theorem test_st_1 : leaves 0xC6206004#32 vectors (fun t =>
    t.wordAt 0x0B#8 0x2004#32 == 0xAABBCCDD#32 && t.pc == 0x1004#32) = true := by decide

theorem test_st_2 : leaves 0xC0206000#32 vectors (fun t =>
    t.wordAt 0x0B#8 0x2000#32 == 0x00000000#32 && t.pc == 0x1004#32) = true := by decide

theorem test_std_1 : leaves 0xD0386008#32 vectors (fun t =>
    t.wordAt 0x0B#8 0x2008#32 == 0x11111111#32 && t.wordAt 0x0B#8 0x200C#32 == 0x22222222#32 && t.pc == 0x1004#32) = true := by decide

theorem test_std_2 : leaves 0xD2386008#32 vectors (fun t =>
    t.wordAt 0x0B#8 0x2008#32 == 0x11111111#32 && t.wordAt 0x0B#8 0x200C#32 == 0x22222222#32 && t.pc == 0x1004#32) = true := by decide

theorem test_sth_2 : leaves 0xC6306001#32 vectors (fun t =>
    t.pc == 0x40000070#32) = true := by decide

theorem test_ldstub_1 : leaves 0xC6686001#32 vectors (fun t =>
    t.reg 3#5 == 0x00000001#32 && t.wordAt 0x0B#8 0x2000#32 == 0x80FF7FFE#32 && t.pc == 0x1004#32) = true := by decide

theorem test_ldstub_2 : leaves 0xC668600C#32 vectors (fun t =>
    t.reg 3#5 == 0x00000000#32 && t.wordAt 0x0B#8 0x200C#32 == 0xFF000000#32 && t.pc == 0x1004#32) = true := by decide

theorem test_swap_1 : leaves 0xC6786004#32 vectors (fun t =>
    t.reg 3#5 == 0x12345678#32 && t.wordAt 0x0B#8 0x2004#32 == 0xAABBCCDD#32 && t.pc == 0x1004#32) = true := by decide

theorem test_swap_2 : leaves 0xC6786002#32 vectors (fun t =>
    t.pc == 0x40000070#32) = true := by decide

theorem test_lda_1 : leaves 0xC6804142#32 vectors (fun t =>
    t.reg 3#5 == 0x12345678#32 && t.pc == 0x1004#32) = true := by decide

theorem test_lda_2 : leaves 0xC6804142#32 { vectors with psr := { vectors.psr with s := false } } (fun t =>
    t.pc == 0x40000030#32) = true := by decide

theorem test_ba_1 : leaves 0x10800007#32 start (fun t =>
    t.pc == 0x1004#32 && t.npc == 0x101C#32) = true := by decide

theorem test_ba_2 : leaves 0x30800004#32 start (fun t =>
    t.pc == 0x1004#32 && t.npc == 0x1010#32 && t.annulNext) = true := by decide

theorem test_bne_1 : leaves 0x32BFFFFE#32 start (fun t =>
    t.pc == 0x1004#32 && t.npc == 0xFF8#32) = true := by decide

theorem test_bne_2 : leaves 0x32BFFFFE#32 { start with psr := { start.psr with icc := icc 0b0100#4 } } (fun t =>
    t.pc == 0x1004#32 && t.npc == 0x1008#32 && t.annulNext) = true := by decide

theorem test_bn_1 : leaves 0x00800007#32 start (fun t =>
    t.pc == 0x1004#32 && t.npc == 0x1008#32) = true := by decide

theorem test_bge_1 : leaves 0x16800010#32 { start with psr := { start.psr with icc := icc 0b1010#4 } } (fun t =>
    t.pc == 0x1004#32 && t.npc == 0x1040#32) = true := by decide

theorem test_bge_2 : leaves 0x16800010#32 { start with psr := { start.psr with icc := icc 0b1000#4 } } (fun t =>
    t.pc == 0x1004#32 && t.npc == 0x1008#32) = true := by decide

theorem test_bgu_1 : leaves 0x18800010#32 { start with psr := { start.psr with icc := icc 0b0001#4 } } (fun t =>
    t.pc == 0x1004#32 && t.npc == 0x1008#32) = true := by decide

theorem test_bleu_1 : leaves 0x08800010#32 { start with psr := { start.psr with icc := icc 0b0100#4 } } (fun t =>
    t.pc == 0x1004#32 && t.npc == 0x1040#32) = true := by decide

theorem test_bvs_1 : leaves 0x0E800010#32 { start with psr := { start.psr with icc := icc 0b0010#4 } } (fun t =>
    t.pc == 0x1004#32 && t.npc == 0x1040#32) = true := by decide

theorem test_bpos_1 : leaves 0x1C800010#32 { start with psr := { start.psr with icc := icc 0b1000#4 } } (fun t =>
    t.pc == 0x1004#32 && t.npc == 0x1008#32) = true := by decide

theorem test_fbe_1 : leaves 0x13800007#32 start (fun t =>
    t.pc == 0x40000040#32 && t.npc == 0x40000044#32 && t.tt == 0x04#8 && t.psr.cwp == 7#3 && t.reg 17#5 == 0x1000#32 && t.reg 18#5 == 0x1004#32) = true := by decide

theorem test_cb0_1 : leaves 0x13C00007#32 start (fun t =>
    t.pc == 0x40000240#32 && t.npc == 0x40000244#32 && t.tt == 0x24#8 && t.psr.cwp == 7#3 && t.reg 17#5 == 0x1000#32 && t.reg 18#5 == 0x1004#32) = true := by decide

theorem test_call_1 : leaves 0x40000040#32 start (fun t =>
    t.pc == 0x1004#32 && t.npc == 0x1100#32 && t.reg 15#5 == 0x1000#32) = true := by decide

theorem test_call_2 : leaves 0x7FFFFFFF#32 start (fun t =>
    t.pc == 0x1004#32 && t.npc == 0xFFC#32 && t.reg 15#5 == 0x1000#32) = true := by decide

theorem test_jmpl_1 : leaves 0x9FC04002#32 ((((start : State).setReg 1#5 0x3000#32) : State).setReg 2#5 0x10#32) (fun t =>
    t.pc == 0x1004#32 && t.npc == 0x3010#32 && t.reg 15#5 == 0x1000#32) = true := by decide

theorem test_jmpl_2 : leaves 0x81C06002#32 ((start : State).setReg 1#5 0x3000#32) (fun t =>
    t.pc == 0x40000070#32 && t.npc == 0x40000074#32 && t.tt == 0x07#8 && t.psr.cwp == 7#3 && t.reg 17#5 == 0x1000#32 && t.reg 18#5 == 0x1004#32) = true := by decide

theorem test_ta_1 : leaves 0x91D02003#32 start (fun t =>
    t.pc == 0x40000830#32 && t.npc == 0x40000834#32 && t.tt == 0x83#8 && t.psr.cwp == 7#3 && t.reg 17#5 == 0x1000#32 && t.reg 18#5 == 0x1004#32) = true := by decide

theorem test_te_1 : leaves 0x83D04002#32 (((({ start with psr := { start.psr with icc := icc 0b0100#4 } } : State).setReg 1#5 0x1F0#32) : State).setReg 2#5 0x20#32) (fun t =>
    t.pc == 0x40000900#32 && t.npc == 0x40000904#32 && t.tt == 0x90#8 && t.psr.cwp == 7#3 && t.reg 17#5 == 0x1000#32 && t.reg 18#5 == 0x1004#32) = true := by decide

theorem test_te_2 : leaves 0x83D04002#32 ((((start : State).setReg 1#5 0x1F0#32) : State).setReg 2#5 0x20#32) (fun t =>
    t.pc == 0x1004#32 && t.npc == 0x1008#32) = true := by decide

theorem test_tne_1 : leaves 0x93D0207F#32 { start with psr := { start.psr with s := false } } (fun t =>
    t.pc == 0x40000FF0#32 && t.npc == 0x40000FF4#32 && t.tt == 0xFF#8 && t.psr.cwp == 7#3 && t.reg 17#5 == 0x1000#32 && t.reg 18#5 == 0x1004#32) = true := by decide

theorem test_ta_2 : leaves 0x91D02003#32 { start with psr := { start.psr with et := false } } (fun t =>
    t.pc == 0x40000830#32 && t.npc == 0x40000834#32 && t.tt == 0x83#8 && t.mode == .error) = true := by decide

theorem test_save_1 : leaves 0x9DE3BFA0#32 (({ start with psr := { start.psr with cwp := 5#3 }, wim := 0x02#8 } : State).setReg 14#5 0xFF0000#32) (fun t =>
    t.pc == 0x1004#32 && t.npc == 0x1008#32 && t.psr.cwp == 4#3 && t.reg 14#5 == 0xFEFFA0#32 && t.reg 30#5 == 0xFF0000#32) = true := by decide

theorem test_save_2 : leaves 0x9DE3BFA0#32 (({ start with psr := { start.psr with cwp := 2#3 }, wim := 0x02#8 } : State).setReg 14#5 0xFF0000#32) (fun t =>
    t.pc == 0x40000050#32 && t.npc == 0x40000054#32 && t.tt == 0x05#8 && t.psr.cwp == 1#3 && t.reg 17#5 == 0x1000#32 && t.reg 18#5 == 0x1004#32) = true := by decide

theorem test_restore_1 : leaves 0x81E80000#32 { start with psr := { start.psr with cwp := 7#3 }, wim := 0x02#8 } (fun t =>
    t.pc == 0x1004#32 && t.npc == 0x1008#32 && t.psr.cwp == 0#3) = true := by decide

theorem test_restore_2 : leaves 0x81E80000#32 { start with psr := { start.psr with cwp := 0#3 }, wim := 0x02#8 } (fun t =>
    t.pc == 0x40000060#32 && t.npc == 0x40000064#32 && t.tt == 0x06#8 && t.psr.cwp == 7#3 && t.reg 17#5 == 0x1000#32 && t.reg 18#5 == 0x1004#32) = true := by decide

theorem test_rett_1 : leaves 0x81CC8000#32 (({ start with psr := { start.psr with cwp := 3#3, et := false }, wim := 0x01#8 } : State).setReg 18#5 0x5004#32) (fun t =>
    t.pc == 0x1004#32 && t.npc == 0x5004#32 && t.psr.cwp == 4#3) = true := by decide

theorem test_rett_2 : leaves 0x81CC8000#32 (({ start with psr := { start.psr with cwp := 3#3 }, wim := 0x01#8 } : State).setReg 18#5 0x5004#32) (fun t =>
    t.pc == 0x40000020#32 && t.npc == 0x40000024#32 && t.tt == 0x02#8 && t.psr.cwp == 2#3 && t.reg 17#5 == 0x1000#32 && t.reg 18#5 == 0x1004#32) = true := by decide

theorem test_fbe_2 : leaves 0x13800010#32 { equipped with fpu := { equipped.fpu with fcc := 0#2 } } (fun t =>
    t.pc == 0x1004#32 && t.npc == 0x1040#32) = true := by decide

theorem test_fbne_1 : leaves 0x23800010#32 { equipped with fpu := { equipped.fpu with fcc := 0#2 } } (fun t =>
    t.pc == 0x1004#32 && t.npc == 0x1008#32 && t.annulNext) = true := by decide

theorem test_fbul_1 : leaves 0x07800010#32 { equipped with fpu := { equipped.fpu with fcc := 1#2 } } (fun t =>
    t.pc == 0x1004#32 && t.npc == 0x1040#32) = true := by decide

theorem test_fbul_2 : leaves 0x07800010#32 { equipped with fpu := { equipped.fpu with fcc := 2#2 } } (fun t =>
    t.pc == 0x1004#32 && t.npc == 0x1008#32) = true := by decide

theorem test_fbo_1 : leaves 0x1F800010#32 { equipped with fpu := { equipped.fpu with fcc := 3#2 } } (fun t =>
    t.pc == 0x1004#32 && t.npc == 0x1008#32) = true := by decide

theorem test_fba_1 : leaves 0x31800010#32 equipped (fun t =>
    t.pc == 0x1004#32 && t.npc == 0x1040#32 && t.annulNext) = true := by decide

theorem test_cb0_2 : leaves 0x13C00010#32 { equipped with cp := { equipped.cp with ccc := 0#2 } } (fun t =>
    t.pc == 0x1004#32 && t.npc == 0x1040#32) = true := by decide

theorem test_cb123_1 : leaves 0x03C00010#32 { equipped with cp := { equipped.cp with ccc := 0#2 } } (fun t =>
    t.pc == 0x1004#32 && t.npc == 0x1008#32) = true := by decide

theorem test_cb013_1 : leaves 0x1DC00010#32 { equipped with cp := { equipped.cp with ccc := 3#2 } } (fun t =>
    t.pc == 0x1004#32 && t.npc == 0x1040#32) = true := by decide

theorem test_rdpsr_1 : leaves 0x87480000#32 { start with psr := { start.psr with cwp := 0#3, s := true, ps := false, et := true, pil := 0#4, icc := icc 0b0000#4 } } (fun t =>
    t.reg 3#5 == 0x110000A0#32) = true := by decide

theorem test_rdpsr_2 : leaves 0x87480000#32 { start with psr := { start.psr with cwp := 6#3, s := true, ps := true, et := true, ef := true, pil := 9#4, icc := icc 0b1001#4 } } (fun t =>
    t.reg 3#5 == 0x119019E6#32) = true := by decide

theorem test_wrpsr_1 : leaves 0x81884002#32 ((((start : State).setReg 1#5 0x00F01FE7#32) : State).setReg 2#5 0xF#32) (fun t =>
    t.pc == 0x40000020#32) = true := by decide

theorem test_wrpsr_2 : leaves 0x81884002#32 ((((start : State).setReg 1#5 0x00F01FE7#32) : State).setReg 2#5 0x2#32) (fun t =>
    t.psr.cwp == 5#3 && t.psr.toWord == 0x11F01FE5#32) = true := by decide

theorem test_wrwim_1 : leaves 0x81902002#32 start (fun t =>
    t.wim == 0x02#8) = true := by decide

theorem test_wrwim_2 : leaves 0x81906000#32 ((start : State).setReg 1#5 0xFFFFFFFF#32) (fun t =>
    t.wim == 0xFF#8) = true := by decide

theorem test_wrtbr_1 : leaves 0x81986000#32 (({ start with tt := 0x05#8 } : State).setReg 1#5 0x40000FFF#32) (fun t =>
    t.tbr == 0x40000050#32) = true := by decide

theorem test_rdtbr_1 : leaves 0x87580000#32 { start with tt := 0x83#8 } (fun t =>
    t.reg 3#5 == 0x40000830#32) = true := by decide

theorem test_wry_1 : leaves 0x81804002#32 ((((start : State).setReg 1#5 0xFF00FF00#32) : State).setReg 2#5 0x0FF00FF0#32) (fun t =>
    t.y == 0xF0F0F0F0#32) = true := by decide

theorem test_wry_2 : leaves 0x81804002#32 (((({ start with psr := { start.psr with s := false } } : State).setReg 1#5 1#32) : State).setReg 2#5 2#32) (fun t =>
    t.y == 0x00000003#32) = true := by decide

theorem test_rdy_1 : leaves 0x87400000#32 { start with psr := { start.psr with s := false }, y := 0xDEADBEEF#32 } (fun t =>
    t.reg 3#5 == 0xDEADBEEF#32) = true := by decide

/-- An FPop with an opf that names nothing stays in the queue with its exception pending (R109, R301). -/
theorem test_fpop1_unassigned : leaves 0x87A04002#32 equipped (fun t =>
    t.fpu.excPending && t.fpu.queue == [(0x1000#32, 0x87A04002#32)] && t.pc == 0x1004#32) = true := by decide

/-- STDFQ stores the address and then the instruction of the front entry (R170). -/
theorem test_stdfq : leaves 0xC1306008#32 ({ equipped with fpu := { equipped.fpu with
    excMode := true, queue := [(0x500#32, 0x87A04822#32)] } }) (fun t =>
    t.wordAt 0x0B#8 8#32 == 0x500#32 && t.wordAt 0x0B#8 12#32 == 0x87A04822#32
      && t.fpu.queue == [] && !t.fpu.excMode) = true := by decide

theorem test_ldf_disabled : leaves 0xC5006008#32 start (fun t => t.pc == 0x40000040#32) = true := by decide

theorem test_ldc_disabled : leaves 0xC5806008#32 start (fun t => t.pc == 0x40000240#32) = true := by decide

theorem test_ldf : leaves 0xC5006004#32 ({ vectors with cfg := equipped.cfg, psr := equipped.psr }) (fun t =>
    t.freg 2#5 == 0x12345678#32 && t.freg 3#5 == 0#32) = true := by decide

theorem test_stc : leaves 0xC5A06004#32 ({ vectors with
      cfg := equipped.cfg, psr := equipped.psr, cp := { initialCp with c := Vector.replicate 32 7#32 } }) (fun t =>
    t.wordAt 0x0B#8 0x2004#32 == 7#32 && t.wordAt 0x0B#8 0x2000#32 == 0x80017FFE#32) = true := by decide

theorem test_fbe_pending : leaves 0x13800010#32 ({ equipped with fpu := { equipped.fpu with excPending := true } })
    (fun t => t.pc == 0x40000080#32 && t.reg 17#5 == 0x1000#32 && !t.fpu.excPending) = true := by decide

theorem test_unimp : leaves 0x00000015#32 start (fun t => t.pc == 0x40000020#32) = true := by decide

theorem test_reserved_word : leaves 0xC1106008#32 start (fun t => t.tt == 2#8) = true := by decide

theorem test_iflush_ift_low : leaves 0x81D84002#32 ({ start with cfg := { Config.ordinary with ift := false } })
    (fun t => t.tt == 2#8) = true := by decide

theorem test_iflush_ift_high : leaves 0x81D84002#32 start (fun t => t.pc == 0x1004#32) = true := by decide

theorem test_sethi : leaves 0x03048D15#32 start (fun t => t.reg 1#5 == 0x12345400#32) = true := by decide

/-- The check word of program 5 at address 0x28. -/
theorem test_pfcheck_mismatch : leaves 0x011F2400#32
    ({ start with cfg := { Config.ordinary with flowEnabled := true }, pfcSum := 0x8400A001#32 })
    (fun t => t.tt == 0x66#8 && !t.pfcCheckEnabled) = true := by decide

theorem test_pfcheck_match : leaves 0x011FE272#32
    ({ start with cfg := { Config.ordinary with flowEnabled := true }, pfcSum := 0x829060E2#32 })
    (fun t => t.pfcSum == 0#32 && t.pfcCheckEnabled && t.pc == 0x1004#32) = true := by decide

/-- Part 7: level 7 with PIL = 5 from user mode. -/
theorem test_interrupt_taken : steps ({ start with
      psr := { start.psr with s := false, pil := 5#4 }, env := [{ Pins.quiet with irl := 7#4 }] }) (fun t =>
    t.pc == 0x40000170#32 && t.psr.cwp == 7#3 && t.reg 17#5 == 0x1000#32 && t.reg 18#5 == 0x1004#32 && !t.psr.ps
      && t.psr.pil == 5#4) = true := by decide

/-- Part 7: level 5 with PIL = 5 is not taken. -/
theorem test_interrupt_masked : steps ((State.withFetchWord ({ start with psr := { start.psr with pil := 5#4 } }) 32 0x01000000))
    (fun t => t.pc == 0x1004#32) = true := by decide

/-- Part 7: the reset vector. -/
theorem test_reset : steps ({ start with
      mode := .reset, psr := { icc := icc 0b1010#4, ec := false, ef := false, pil := 2#4, s := false, ps := false, et := true, cwp := 3#3 }
      tt := 0x83#8, annulNext := true }) (fun t =>
    t.pc == 0#32 && t.npc == 4#32 && t.psr.toWord == 0x11A00283#32 && t.tt == 0x83#8 && !t.annulNext) = true := by decide

theorem test_first_step_after_reset : steps (State.reset.withFetchWord 32 0x818820C0) (fun t =>
    t.pc == 4#32 && t.psr.toWord == 0x110000C0#32) = true := by decide

/-- 1.7: odd parity. -/
theorem test_odd_parity : oddParity 0x00#8 = true ∧ oddParity 0x01#8 = false ∧ oddParity 0xFFFFFFFF#32 = true
    ∧ oddParity 0x80000001#32 = true ∧ oddParity 0x00000007#32 = false := by decide

/-! ### The hypotheses of the statements can be met -/

/-- `start` with a word where the next step fetches. -/
def placed (w : Nat) (s : State) : State := s.withFetchWord 32 w

/-- `s` with one environment sample to come. -/
def sampled (p : Pins) (s : State) : State := { s with env := [p] }

/-- `start` in user mode. -/
def user : State := { start with psr := { start.psr with s := false } }

/-- `start` with traps disabled, as in a trap handler. -/
def handler : State := { start with psr := { start.psr with et := false } }

/-- `start` on a board with read-only storage below 0x100, a device below 0x200 and nothing below 0x300. -/
def board : State :=
  { start with
    platform :=
      [{ asiLo := 0#8, asiHi := 0xFF#8, base := 0, size := 0x100, kind := .rom },
       { asiLo := 0#8, asiHi := 0xFF#8, base := 0x100, size := 0x100, kind := .device },
       { asiLo := 0#8, asiHi := 0xFF#8, base := 0x200, size := 0x100, kind := .absent },
       { asiLo := 0#8, asiHi := 0xFF#8, base := 0, size := 2 ^ 32, kind := .ram }] }

/-- A reported late error comes before the trap of its instruction, an UNIMP (R334, R400), and saves the next pair (R399). -/
theorem test_late_error_before_trap : steps (sampled { Pins.quiet with hwErrors := [.restartableLate] } (placed 0x00000000 start))
    (fun t => t.pc == 0x40000630#32 && t.reg 17#5 == 0x1004#32 && t.reg 18#5 == 0x1008#32 && t.hwerror) = true := by decide

/-- An upset in the PSR is an imprecise error (R402). -/
theorem test_upset_psr : steps (sampled { Pins.quiet with upsets := [.psr] } (placed 0x01000000 start))
    (fun t => t.pc == 0x40000640#32) = true := by decide

/-- HWERROR stays asserted while the error remains, and falls after it (R404). -/
theorem test_hwerror_level :
    steps (sampled { Pins.quiet with errorRemains := true } (placed 0x01000000 { start with hwerror := true }))
      (fun t => t.hwerror) = true
    ∧ steps (placed 0x01000000 { start with hwerror := true }) (fun t => !t.hwerror) = true := by decide

/-- A load takes the data a device drives (R429): ldub [%g0 + 0x101], %g3. -/
theorem test_device_load : leaves 0xC6082101#32
    ({ board with pins := { Pins.quiet with dataAnswers := [.data 0xA1B2C3D4#32] } }) (fun t => t.reg 3#5 == 0xB2#32) = true := by
  decide

/-- Two address spaces reach one storage where the platform map says so (R73): sta %g3, [%g1 + %g2] 0x20. -/
theorem test_aliased_storage : leaves 0xC6A04402#32
    ({ vectors with platform :=
        [{ asiLo := 0x20#8, asiHi := 0x20#8, base := 0, size := 0x4000, kind := .ram, stored := some (0x0B#8, 0x100#29) }]
          ++ Region.flatRam }) (fun t => t.wordAt 0x0B#8 0x2804#32 == 0xAABBCCDD#32) = true := by decide

/-- The IU fetches at most five words ahead (R78), and another master writes between the fetch and the load (R84): ld
[%g0 + 8], %g3. -/
theorem test_fetch_ahead_and_other_master :
    steps (sampled { Pins.quiet with prefetch := 9, midWrites := [(11, 7#8)] } (placed 0xC6002008 start))
      (fun t => t.reg 3#5 == 7#32 && t.events.length == 7) = true := by decide

/-- A checker drives ERROR, not the bus (R411). -/
theorem test_checker_outputs :
    steps (placed 0x00000000 { handler with cfg := { Config.ordinary with checkerMode := true } })
      (fun t => t.outputs == [.error] && t.errorLine && t.events.length == 3) = true := by decide

/-- In exception mode an FPop is launched and the IU goes on (R302). -/
theorem test_fpop_in_exception_mode : leaves 0x87A04822#32 ({ equipped with fpu := { equipped.fpu with
    excMode := true, queue := [(0x500#32, 0x87A04822#32)] } }) (fun t =>
    t.pc == 0x1004#32 && t.fpu.excMode && t.fpu.queue.head? == some (0x500#32, 0x87A04822#32)) = true := by decide

/-- FEXC asserted by the environment: the next FP instruction, an FBE, traps, and the FPU is in exception mode with the given
instruction in its queue (R55, R343, log 53). -/
theorem test_fexc_sampled :
    steps (sampled { Pins.quiet with fexc := [(0x500#32, 0x87A04822#32)] } (placed 0x13800010 equipped)) (fun t =>
      t.pc == 0x40000080#32 && !t.fpu.excPending && t.fpu.excMode && t.fpu.queue == [(0x500#32, 0x87A04822#32)]) = true := by
  decide

/-- The same for CEXC and a CB0. -/
theorem test_cexc_sampled :
    steps (sampled { Pins.quiet with cexc := [(0x504#32, 0x87B04002#32)] } (placed 0x13C00010 equipped)) (fun t =>
      t.pc == 0x40000280#32 && !t.cp.excPending && t.cp.excMode && t.cp.queue == [(0x504#32, 0x87B04002#32)]) = true := by
  decide

theorem undisturbed_of_no_answers {s : State} (h : s.pins.dataAnswers = []) (g : s.loadSuspect = false) :
    s.undisturbed := by
  refine ⟨fun x hx => ?_, g⟩
  rw [h] at hx
  cases hx

/-- EncodedInstructionDecodes: the ends of the immediates, an opf that names nothing. -/
theorem test_hyp_wellFormed :
    (Instr.sethi 0#5 1#22).wellFormed = true ∧ (Instr.sethi 31#5 0x3FFFFF#22).wellFormed = true
    ∧ (Instr.fpop1 31#5 31#5 0x1FF#9 31#5).wellFormed = true ∧ (Instr.add 31#5 31#5 (.imm 0x1000#13)).wellFormed = true := by
  decide

/-- ReservedWordsAreIllegal: the first and the last of each kind of reserved word. -/
theorem test_hyp_reserved :
    ∀ w ∈ [0x00400000#32, 0x3F7FFFFF#32, 0x80480000#32, 0xBFFFFFFF#32, 0xC0400000#32, 0xFFFFFFFF#32, 0xC0802000#32,
      0xFEFFFFFF#32], ReservedWord w := by
  intro w hw
  simp only [List.mem_cons, List.not_mem_nil, or_false] at hw
  unfold ReservedWord
  rcases hw with rfl | rfl | rfl | rfl | rfl | rfl | rfl | rfl <;> decide

/-- StepRunsDecodedInstruction: an ADD, with an interrupt request at the level of PIL. -/
theorem test_hyp_step : ∃ s : State, s = sampled { Pins.quiet with irl := 5#4 }
      (placed 0x86004002 { start with psr := { start.psr with pil := 5#4 } })
    ∧ s.running ∧ s.annulNext = false ∧ s.sample.unheld ∧ s.sample.faultless ∧ ¬ InterruptRequested s s.sample
    ∧ s.readable s.fetchAsi s.pc ∧ s.fetchSettled = true ∧ decode s.wordAtPc = .ok (.add 3#5 1#5 (.reg 2#5)) := by
  refine ⟨_, rfl, ⟨rfl, rfl⟩, rfl, ⟨rfl, rfl, rfl, rfl, rfl, rfl, rfl, rfl, rfl⟩, ⟨rfl, rfl, rfl, rfl⟩, ?_, .inl (by decide), by decide, by decide⟩
  unfold InterruptRequested
  decide

/-- StepKeepsGood, StepKeepsConfiguration: an aligned state that a step changes. -/
theorem test_hyp_good : start.Good ∧ ∃ t, step start = .next t :=
  ⟨⟨by unfold WordAligned; decide, by unfold WordAligned; decide, by decide, by decide, by decide, by decide, by decide, by decide⟩, _,
    rfl⟩

/-- UserModeIsConfined: a step that stays in user mode, a trap, and the end of reset. -/
theorem test_hyp_user :
    (∃ t, user.psr.s = false ∧ step (placed 0x01000000 user) = .next t ∧ t.psr.s = false)
    ∧ (∃ t, step (placed 0x91D02003 user) = .next t ∧ t.psr.s = true)
    ∧ ∃ t, step { user with mode := .reset } = .next t ∧ t.psr.s = true :=
  ⟨⟨_, rfl, rfl, by decide⟩, ⟨_, rfl, by decide⟩, _, rfl, by decide⟩

/-- OnlyResetLeavesErrorMode, ResetSequence: error mode, HALT, a hold, RESET asserted, reset mode. -/
theorem test_hyp_modes :
    (∃ s : State, s.cfg.fpsyn = false ∧ s.mode = .error ∧ s.sample.reset = false ∧ s.sample.still)
    ∧ (∃ s : State, s.cfg.fpsyn = false ∧ s.sample.reset = false ∧ s.sample.resetFault = false ∧ s.sample.still
        ∧ s.sample.halt = true)
    ∧ (∃ s : State, s.cfg.fpsyn = false ∧ s.sample.reset = false ∧ s.sample.resetFault = false ∧ s.sample.still
        ∧ s.sample.hold = true)
    ∧ (∃ s : State, s.cfg.fpsyn = false ∧ s.sample.resetFault = false ∧ s.sample.still ∧ s.sample.reset = true)
    ∧ ∃ s : State, s.cfg.fpsyn = false ∧ s.sample.unheld ∧ s.mode = .reset :=
  ⟨⟨{ start with mode := .error }, rfl, rfl, rfl, ⟨rfl, rfl, rfl, rfl, rfl⟩⟩,
    ⟨sampled { Pins.quiet with halt := true } start, rfl, rfl, rfl, ⟨rfl, rfl, rfl, rfl, rfl⟩, rfl⟩,
    ⟨sampled { Pins.quiet with hold := true } start, rfl, rfl, rfl, ⟨rfl, rfl, rfl, rfl, rfl⟩, rfl⟩,
    ⟨sampled { Pins.quiet with reset := true } start, rfl, rfl, ⟨rfl, rfl, rfl, rfl, rfl⟩, rfl⟩,
    ⟨{ start with mode := .reset }, rfl, ⟨rfl, rfl, rfl, rfl, rfl, rfl, rfl, rfl, rfl⟩, rfl⟩⟩

/-- TrapEntry, TrapWithTrapsDisabled, TrapAndReturn. -/
theorem test_hyp_traps : start.psr.et = true ∧ handler.psr.et = false ∧ WordAligned start.pc ∧ WordAligned start.npc
    ∧ start.wim.getLsbD start.psr.cwp.toNat = false := by
  unfold WordAligned
  decide

/-- InterruptRecognition: level 15 with PIL = 15, a level above PIL with an annulled instruction; and no request. -/
theorem test_hyp_interrupt :
    (∃ s : State, s.running ∧ s.sample.unheld ∧ InterruptRequested s s.sample ∧ s.sample.errors = [] ∧ s.psr.pil = 15#4)
    ∧ (∃ s : State, s.running ∧ s.sample.unheld ∧ InterruptRequested s s.sample ∧ s.annulNext = true)
    ∧ (∃ s : State, s.running ∧ s.sample.unheld ∧ s.psr.et = false ∧ s.sample.irl = 15#4)
    ∧ (∃ s : State, s.running ∧ s.sample.unheld ∧ s.sample.irl = 0#4)
    ∧ ∃ s : State, s.running ∧ s.sample.unheld ∧ s.sample.irl ≠ 15#4 ∧ s.sample.irl ≤ s.psr.pil :=
  ⟨⟨sampled { Pins.quiet with irl := 15#4 } { start with psr := { start.psr with pil := 15#4 } }, ⟨rfl, rfl⟩,
      ⟨rfl, rfl, rfl, rfl, rfl, rfl, rfl, rfl, rfl⟩, by unfold InterruptRequested; decide, rfl, rfl⟩,
    ⟨sampled { Pins.quiet with irl := 1#4 } { start with annulNext := true }, ⟨rfl, rfl⟩, ⟨rfl, rfl, rfl, rfl, rfl, rfl, rfl, rfl, rfl⟩,
      by unfold InterruptRequested; decide, rfl⟩,
    ⟨sampled { Pins.quiet with irl := 15#4 } handler, ⟨rfl, rfl⟩, ⟨rfl, rfl, rfl, rfl, rfl, rfl, rfl, rfl, rfl⟩, rfl, rfl⟩,
    ⟨start, ⟨rfl, rfl⟩, ⟨rfl, rfl, rfl, rfl, rfl, rfl, rfl, rfl, rfl⟩, rfl⟩,
    ⟨sampled { Pins.quiet with irl := 14#4 } { start with psr := { start.psr with pil := 14#4 } }, ⟨rfl, rfl⟩,
      ⟨rfl, rfl, rfl, rfl, rfl, rfl, rfl, rfl, rfl⟩, by decide, by decide⟩⟩

/-- AnnulledInstructionDoesNothing: a readable word; a fetch refused by MEXC; a fetch from a device. -/
theorem test_hyp_annulled :
    (∃ s : State, s.running ∧ s.annulNext = true ∧ s.sample.unheld ∧ ¬ InterruptRequested s s.sample
      ∧ s.readable s.fetchAsi s.pc ∧ s.fetchSettled = true ∧ s.sample.fetchMexc = false)
    ∧ (∃ s : State, s.running ∧ s.annulNext = true ∧ s.sample.unheld ∧ ¬ InterruptRequested s s.sample
      ∧ s.sample.fetchMexc = true)
    ∧ ∃ s : State, s.running ∧ s.annulNext = true ∧ s.sample.unheld ∧ ¬ InterruptRequested s s.sample
      ∧ regionKind s.platform s.fetchAsi s.pc = .device :=
  ⟨⟨{ start with annulNext := true }, ⟨rfl, rfl⟩, rfl, ⟨rfl, rfl, rfl, rfl, rfl, rfl, rfl, rfl, rfl⟩,
      by unfold InterruptRequested; decide, .inl (by decide), by decide, rfl⟩,
    ⟨sampled { Pins.quiet with fetchMexc := true } { start with annulNext := true }, ⟨rfl, rfl⟩, rfl,
      ⟨rfl, rfl, rfl, rfl, rfl, rfl, rfl, rfl, rfl⟩, by unfold InterruptRequested; decide, rfl⟩,
    ⟨{ board with annulNext := true, pc := 0x1FC#32 }, ⟨rfl, rfl⟩, rfl, ⟨rfl, rfl, rfl, rfl, rfl, rfl, rfl, rfl, rfl⟩,
      by unfold InterruptRequested; decide, by decide⟩⟩

/-- HardwareErrors, before the instruction: an upset beside an error of higher priority, and a refused fetch. -/
theorem test_hyp_errors :
    (∃ (s : State) (e : HwError), s.running ∧ s.annulNext = false ∧ s.sample.unheld ∧ e ∈ s.sample.errors
      ∧ e ≠ .programFlow ∧ e ≠ .restartableLate ∧ ∀ e' ∈ s.sample.errors, e.priority ≤ e'.priority)
    ∧ ∃ s : State, s.running ∧ s.annulNext = false ∧ s.sample.unheld ∧ HwError.restartableLate ∈ s.sample.errors
      ∧ (∀ e ∈ s.sample.errors, 4 ≤ e.priority) ∧ s.sample.fetchMexc = true :=
  ⟨⟨sampled { Pins.quiet with hwErrors := [.imprecise], upsets := [.y] } start, .imprecise, ⟨rfl, rfl⟩, rfl,
      ⟨rfl, rfl, rfl, rfl, rfl, rfl, rfl, rfl, rfl⟩, by decide, by decide, by decide, by decide⟩,
    ⟨sampled { Pins.quiet with hwErrors := [.restartableLate], upsets := [.y], fetchMexc := true } start, ⟨rfl, rfl⟩, rfl,
      ⟨rfl, rfl, rfl, rfl, rfl, rfl, rfl, rfl, rfl⟩, by decide, by decide, rfl⟩⟩

/-- A step with wrong load parity, parity checking enabled, at `ld [%g0 + 8], %g3`. -/
def parityLoad : State :=
  sampled { Pins.quiet with loadParity := true }
    (placed 0xC6002008 { start with cfg := { Config.ordinary with parityInEnabled := true } })

/-- HardwareErrors, the late error: after a NOP, in the place of the trap of UNIMP, and found by a load. -/
theorem test_hyp_late_error :
    (∃ s u : State, s.running ∧ s.annulNext = false ∧ s.sample.unheld ∧ s.readable s.fetchAsi s.pc ∧ s.fetchSettled = true
      ∧ s.sample.fetchMexc = false ∧ runWord exec s.wordAtPc s.started = .next u ∧ u.mode ≠ .reset ∧ LateErrorDue s u
      ∧ Event.flush ∉ u.events)
    ∧ (∃ s u : State, s.running ∧ s.annulNext = false ∧ s.sample.unheld ∧ s.readable s.fetchAsi s.pc ∧ s.fetchSettled = true
      ∧ s.sample.fetchMexc = false ∧ runWord exec s.wordAtPc s.started = .next u ∧ u.mode ≠ .reset ∧ LateErrorDue s u
      ∧ Event.flush ∈ u.events)
    ∧ ∃ u : State, runWord exec parityLoad.wordAtPc parityLoad.started = .next u ∧ LateErrorDue parityLoad u
      ∧ parityLoad.started.loadSuspect = true := by
  refine ⟨⟨sampled { Pins.quiet with hwErrors := [.restartableLate] } (placed 0x01000000 start), _, ⟨rfl, rfl⟩, rfl,
      ⟨rfl, rfl, rfl, rfl, rfl, rfl, rfl, rfl, rfl⟩, .inl (by decide), by decide, rfl, rfl, by decide,
      .inl ⟨by decide, by decide⟩, by decide⟩,
    ⟨sampled { Pins.quiet with hwErrors := [.restartableLate] } (placed 0x00000000 start), _, ⟨rfl, rfl⟩, rfl,
      ⟨rfl, rfl, rfl, rfl, rfl, rfl, rfl, rfl, rfl⟩, .inl (by decide), by decide, rfl, rfl, by decide,
      .inl ⟨by decide, by decide⟩, by decide⟩, _, rfl, .inr ⟨rfl, rfl, ?_, by decide⟩, by decide⟩
  unfold InterruptRequested
  decide

/-- HardwareErrors, bad load data: at the highest doubleword, in both kinds of address space, with both units ready. -/
theorem test_hyp_bad_load : ∃ s : State, (∀ x ∈ s.pins.dataAnswers, x = BusAnswer.ready) ∧ s.loadSuspect = true
    ∧ s.psr.s = true ∧ s.fpReady ∧ s.cpReady ∧ effectiveAddress 0#5 (.imm 0x1FF8#13) s = 0xFFFFFFF8#32
    ∧ s.writable s.dataAsi 0xFFFFFFF8#32 ∧ s.readable s.dataAsi (0xFFFFFFF8#32 + 4#32)
    ∧ s.writable 0x08#8 (alternateAddress 0#5 0#5 s) ∧ s.readable 0x08#8 (alternateAddress 0#5 0#5 s + 4#32) := by
  refine ⟨{ equipped with pins := { Pins.quiet with hwErrors := [.restartableLate] } }, fun x hx => ?_, by decide, rfl,
    ⟨rfl, rfl, rfl, rfl⟩, ⟨rfl, rfl, rfl, rfl⟩, by decide,
    by unfold State.writable; decide, .inl (by decide), by unfold State.writable; decide, .inl (by decide)⟩
  cases hx

/-- RefusedFetchTraps: MEXC, and an address where nothing answers. -/
theorem test_hyp_refused_fetch :
    (∃ s : State, s.running ∧ s.annulNext = false ∧ s.sample.unheld ∧ ¬ InterruptRequested s s.sample
      ∧ s.sample.errors = [] ∧ s.sample.fetchMexc = true)
    ∧ ∃ s : State, s.running ∧ s.annulNext = false ∧ s.sample.unheld ∧ ¬ InterruptRequested s s.sample
      ∧ s.sample.errors = [] ∧ regionKind s.platform s.fetchAsi s.pc = .absent :=
  ⟨⟨sampled { Pins.quiet with fetchMexc := true } start, ⟨rfl, rfl⟩, rfl, ⟨rfl, rfl, rfl, rfl, rfl, rfl, rfl, rfl, rfl⟩,
      by unfold InterruptRequested; decide, rfl, rfl⟩,
    ⟨{ board with pc := 0x200#32 }, ⟨rfl, rfl⟩, rfl, ⟨rfl, rfl, rfl, rfl, rfl, rfl, rfl, rfl, rfl⟩, by unfold InterruptRequested; decide, rfl,
      by decide⟩⟩

/-- TaggedArithmetic: V clear with the largest sum that does not overflow, V set by overflow and by a tag. -/
theorem test_hyp_tagged :
    (sumIcc 0x7FFFFFF8#32 4#32 false).v = false ∧ (sumIcc 0x7FFFFFFC#32 4#32 false).v = true
    ∧ (differenceIcc 0x80000004#32 4#32 false).v = false ∧ (differenceIcc 0x80000000#32 4#32 false).v = true
    ∧ (1#32).extractLsb' 0 2 ≠ 0#2 := by
  decide

/-- SethiAndNop, ProgramFlowCheck: both settings of FLOW, a matching and a failing signature, checking disabled. -/
theorem test_hyp_flow :
    start.cfg.flowEnabled = false
    ∧ (∃ s : State, s.cfg.flowEnabled = true ∧ s.pfcCheckEnabled = true ∧ s.pfcSum.extractLsb' 16 16 ^^^ s.pfcSum.extractLsb' 0 16 = 0xE272#16)
    ∧ (∃ s : State, s.cfg.flowEnabled = true ∧ s.pfcCheckEnabled = true ∧ s.pfcSum.extractLsb' 16 16 ^^^ s.pfcSum.extractLsb' 0 16 ≠ 0x2400#16)
    ∧ ∃ s : State, s.cfg.flowEnabled = true ∧ s.pfcCheckEnabled = false :=
  ⟨rfl, ⟨{ start with cfg := { Config.ordinary with flowEnabled := true }, pfcSum := 0x829060E2#32 }, rfl, rfl, by decide⟩,
    ⟨{ start with cfg := { Config.ordinary with flowEnabled := true }, pfcSum := 0x8400A001#32 }, rfl, rfl, by decide⟩,
    ⟨{ start with cfg := { Config.ordinary with flowEnabled := true }, pfcCheckEnabled := false }, rfl, rfl⟩⟩

/-- SaveAndRestore, WindowsPassArguments, ReturnFromTrap: valid and invalid windows at both ends of the wheel. -/
theorem test_hyp_windows :
    start.wim.getLsbD (start.psr.cwp - 1#3).toNat = false ∧ (0x80#8).getLsbD (0#3 - 1#3).toNat = true
    ∧ start.wim.getLsbD (start.psr.cwp + 1#3).toNat = false ∧ (0x01#8).getLsbD (7#3 + 1#3).toNat = true
    ∧ (0#5 : Reg) ≠ 24#5 + (7#3).setWidth 5 ∧ (31#5 : Reg) ≠ 8#5 + (7#3).setWidth 5 := by
  decide

/-- The loads, stores and atomics: the highest doubleword of the address space and the highest byte of it, in the data space
of each mode. -/
theorem test_hyp_memory :
    start.undisturbed ∧ user.undisturbed ∧ equipped.undisturbed
    ∧ effectiveAddress 0#5 (.imm 0x1FF8#13) start = 0xFFFFFFF8#32 ∧ effectiveAddress 0#5 (.imm 0x1FFF#13) user = 0xFFFFFFFF#32
    ∧ start.dataAsi = 0x0B#8 ∧ user.dataAsi = 0x0A#8 ∧ equipped.dataAsi = 0x0B#8
    ∧ regionKind start.platform 0x0B#8 0xFFFFFFF8#32 = .ram ∧ regionKind start.platform 0x0B#8 (0xFFFFFFF8#32 + 4#32) = .ram
    ∧ regionKind user.platform 0x0A#8 0xFFFFFFFF#32 = .ram ∧ equipped.platform = start.platform
    ∧ (0xFFFFFFFE#32 : Word).extractLsb' 0 1 = 0#1 ∧ (0xFFFFFFFC#32 : Word).extractLsb' 0 2 = 0#2
    ∧ (0xFFFFFFF8#32 : Word).extractLsb' 0 3 = 0#3 :=
  ⟨undisturbed_of_no_answers rfl rfl, undisturbed_of_no_answers rfl rfl, undisturbed_of_no_answers rfl rfl, by decide, by decide, rfl, rfl,
    rfl, by decide, by decide, by decide, rfl, by decide, by decide, by decide⟩

/-- AlternateSpaceAccesses: supervisor mode, the user spaces at the address of two registers. -/
theorem test_hyp_alternate : start.psr.s = true ∧ start.undisturbed
    ∧ ∀ asi ∈ [0x08#8, 0x0B#8], start.readable asi (alternateAddress 1#5 2#5 start)
      ∧ start.writable asi (alternateAddress 1#5 2#5 start) ∧ start.readable asi (alternateAddress 1#5 2#5 start + 4#32)
      ∧ start.writable asi (alternateAddress 1#5 2#5 start + 4#32)
      ∧ (alternateAddress 1#5 2#5 start).extractLsb' 0 3 = 0#3 := by
  refine ⟨rfl, undisturbed_of_no_answers rfl rfl, ?_⟩
  unfold State.readable State.writable
  decide

/-- MisalignedAddressesTrap: the smallest address with each named bit set. -/
theorem test_hyp_misaligned :
    (effectiveAddress 0#5 (.imm 1#13) start).extractLsb' 0 1 ≠ 0#1 ∧ (effectiveAddress 0#5 (.imm 2#13) start).extractLsb' 0 2 ≠ 0#2
    ∧ (effectiveAddress 0#5 (.imm 4#13) start).extractLsb' 0 3 ≠ 0#3 ∧ ¬ equipped.fpOff ∧ ¬ equipped.cpOff
    ∧ equipped.psr.s = true ∧ (alternateAddress 1#5 0#5 (withRegs 1#32 0#32 start)).extractLsb' 0 1 ≠ 0#1
    ∧ (alternateAddress 1#5 0#5 (withRegs 4#32 0#32 start)).extractLsb' 0 3 ≠ 0#3 := by
  unfold State.fpOff State.cpOff
  decide

/-- PrivilegedInstructionsTrapInUserMode: user mode with and without traps, the largest CWP a WRPSR may write. -/
theorem test_hyp_privileged : user.psr.s = false ∧ (writeValue 0#5 (.imm 7#13) user).toNat % 32 < 8
    ∧ (∃ s : State, s.psr.s = false ∧ s.psr.et = false) := by
  refine ⟨rfl, by decide, { user with psr := { user.psr with et := false } }, rfl, rfl⟩

/-- RefusedAccessTraps, RefusedSecondAccess: MEXC on the first and on the second access with both units ready, a write to
read-only storage, and the edge of an address range where nothing answers. -/
theorem test_hyp_refused :
    (∃ s : State, s.refuses 0 s.dataAsi 0x2000#32 false ∧ s.refuses 0 s.dataAsi 0x2000#32 true ∧ s.fpReady ∧ s.cpReady)
    ∧ (∃ s : State, s.grants 0 s.dataAsi 0x2000#32 false ∧ s.refuses 1 s.dataAsi 0x2004#32 false
        ∧ s.grants 0 s.dataAsi 0x2000#32 true ∧ s.refuses 1 s.dataAsi 0x2004#32 true ∧ s.refuses 1 s.dataAsi 0x2000#32 true
        ∧ s.fpReady ∧ s.cpReady)
    ∧ board.grants 0 board.dataAsi 0xF8#32 false ∧ board.refuses 0 board.dataAsi 0xF8#32 true
    ∧ board.refuses 0 board.dataAsi 0x200#32 false ∧ board.refuses 0 board.dataAsi 0x2FF#32 true :=
  ⟨⟨{ equipped with pins := { Pins.quiet with dataAnswers := [.mexc] } }, .inl rfl, .inl rfl, ⟨rfl, rfl, rfl, rfl⟩,
      ⟨rfl, rfl, rfl, rfl⟩⟩,
    ⟨{ equipped with pins := { Pins.quiet with dataAnswers := [.ready, .mexc] } }, ⟨trivial, .inl (by decide)⟩, .inl rfl,
      ⟨trivial, .inl (by decide)⟩, .inl rfl, .inl rfl, ⟨rfl, rfl, rfl, rfl⟩, ⟨rfl, rfl, rfl, rfl⟩⟩,
    ⟨trivial, .inr (.inr ⟨rfl, by decide⟩)⟩, .inr ⟨trivial, .inr ⟨rfl, by decide⟩⟩, .inr ⟨trivial, .inl (by decide)⟩,
    .inr ⟨trivial, .inl (by decide)⟩⟩

/-- DeviceAccesses: the first and the last byte of a device, with data and without; a word fetched from it. -/
theorem test_hyp_device :
    (∃ s : State, regionKind s.platform s.dataAsi 0x100#32 = .device ∧ s.pins.dataAnswers.getD 0 .ready = .data 0xA1B2C3D4#32
      ∧ s.loadSuspect = false)
    ∧ regionKind board.platform board.dataAsi 0x1FF#32 = .device ∧ BusAnswer.passes (board.pins.dataAnswers.getD 0 .ready)
    ∧ ∃ s : State, s.running ∧ s.annulNext = false ∧ s.sample.unheld ∧ s.sample.faultless ∧ ¬ InterruptRequested s s.sample
      ∧ regionKind s.platform s.fetchAsi s.pc = .device ∧ s.sample.fetchData = some 0x01000000#32 :=
  ⟨⟨{ board with pins := { Pins.quiet with dataAnswers := [.data 0xA1B2C3D4#32] } }, by decide, rfl, by decide⟩, by decide,
    trivial, sampled { Pins.quiet with fetchData := some 0x01000000#32 } { board with pc := 0x1FC#32 }, ⟨rfl, rfl⟩, rfl,
    ⟨rfl, rfl, rfl, rfl, rfl, rfl, rfl, rfl, rfl⟩, ⟨rfl, rfl, rfl, rfl⟩, by unfold InterruptRequested; decide, by decide, rfl⟩

/-- StoredWordIsReadByBytes: a word stored at the last word of memory, read at its first byte and its second halfword. -/
theorem test_hyp_stored : ∃ t, exec (.st 1#5 0#5 (.imm 0x1FFC#13)) start = .next t
    ∧ t.readable t.dataAsi (effectiveAddress 0#5 (.imm 0x1FFC#13) t)
    ∧ effectiveAddress 0#5 (.imm 0x1FFE#13) t = 0xFFFFFFFC#32 + BitVec.ofNat 32 (2 * 1)
    ∧ effectiveAddress 0#5 (.imm 0x1FFF#13) t = 0xFFFFFFFC#32 + BitVec.ofNat 32 3 :=
  ⟨_, rfl, .inl (by decide), by decide, by decide⟩

/-- The branches and transfers: outside and inside a delay slot, units ready, a compare just before. -/
theorem test_hyp_branches :
    start.condDelay = false ∧ equipped.condDelay = false ∧ ¬ equipped.fpOff ∧ ¬ equipped.cpOff
    ∧ equipped.fpu.excPending = false ∧ equipped.cp.excPending = false ∧ equipped.cpCompare = false
    ∧ (equipped.cfg.parityInEnabled && equipped.pins.fipar) = false
    ∧ (∃ s : State, s.condDelay = false ∧ ¬ s.cpOff ∧ s.cp.excPending = false ∧ s.cpCompare = true)
    ∧ (∃ s : State, s.condDelay = true ∧ s.psr.et = false ∧ s.psr.s = true ∧ s.wim.getLsbD (s.psr.cwp + 1#3).toNat = false)
    ∧ ∃ s : State, s.condDelay = true ∧ ¬ s.fpOff ∧ s.fpu.excPending = false ∧ (s.cfg.parityInEnabled && s.pins.fipar) = false
      ∧ ¬ s.cpOff ∧ s.cp.excPending = false ∧ s.cpCompare = true := by
  unfold State.fpOff State.cpOff
  refine ⟨rfl, rfl, by decide, by decide, rfl, rfl, rfl, rfl, ⟨{ equipped with cpCompare := true }, rfl, by decide, rfl, rfl⟩,
    ⟨{ handler with condDelay := true }, rfl, rfl, rfl, by decide⟩,
    ⟨{ equipped with condDelay := true, cpCompare := true }, rfl, by decide, rfl, rfl, by decide, rfl, rfl⟩⟩

/-- CallAndJmpl, ReturnFromTrap: an aligned and a misaligned target, each failing check of RETT alone. -/
theorem test_hyp_targets :
    WordAligned (start.reg 0#5 + operand2 (.imm 0x1FFC#13) start) ∧ ¬ WordAligned (start.reg 0#5 + operand2 (.imm 2#13) start)
    ∧ (∃ s : State, s.psr.et = false ∧ s.psr.s = true ∧ s.wim.getLsbD (s.psr.cwp + 1#3).toNat = false ∧ s.condDelay = false)
    ∧ (∃ s : State, s.psr.et = false ∧ s.psr.s = false)
    ∧ (∃ s : State, s.psr.et = false ∧ s.psr.s = true ∧ s.wim.getLsbD (s.psr.cwp + 1#3).toNat = true) := by
  unfold WordAligned
  refine ⟨by decide, by decide, ⟨handler, rfl, rfl, by decide, rfl⟩, ⟨{ user with psr := { user.psr with et := false } }, rfl, rfl⟩,
    ⟨{ handler with wim := 2#8 }, rfl, rfl, by decide⟩⟩

/-- ConditionalTraps: a condition that holds and one that does not, at the corners of signed less-or-equal. -/
theorem test_hyp_conditions :
    (start.setIcc (icc 0b0100#4)).psr.icc.z = true ∧ start.psr.icc.z = false
    ∧ ((icc 0b1000#4).n ^^ (icc 0b1000#4).v) = true ∧ ((icc 0b1010#4).n ^^ (icc 0b1010#4).v) = false := by
  decide

/-- ReadControlRegisters, WriteControlRegisters, WrittenPsrReadsBack: supervisor mode; CWP values 7, 8 and 31. -/
theorem test_hyp_psr :
    start.psr.s = true ∧ (start.reg 0#5 ^^^ operand2 (.imm 0x87#13) start).toNat % 32 < 8
    ∧ (start.reg 0#5 ^^^ operand2 (.imm 8#13) start).toNat % 32 ≥ 8
    ∧ (start.reg 0#5 ^^^ operand2 (.imm 0x1F#13) start).toNat % 32 ≥ 8
    ∧ (start.reg 0#5 ^^^ operand2 (.imm 0x87#13) start).getLsbD 7 = true
    ∧ ∃ t, exec (.wrpsr 0#5 (.imm 0x87#13)) start = .next t := by
  refine ⟨rfl, by decide, by decide, by decide, by decide, _, rfl⟩

/-- UnimpAndIflush: both senses of IFT. -/
theorem test_hyp_ift : start.cfg.ift = true ∧ ∃ s : State, s.cfg.ift = false :=
  ⟨rfl, { start with cfg := { Config.ordinary with ift := false } }, rfl⟩

/-- FpLoadsAndStores, CpLoadsAndStores, FpOperations, UnassignedFpopAndCpops: ready units, queues with one entry, and exception
mode. -/
theorem test_hyp_units :
    equipped.fpReady ∧ equipped.cpReady ∧ equipped.undisturbed ∧ equipped.psr.s = true ∧ equipped.fpu.queue = []
    ∧ equipped.cp.queue = [] ∧ equipped.cfg.fpsyn = false ∧ (∃ s : State, s.cfg.fpsyn = true)
    ∧ (∃ s : State, s.psr.s = true ∧ ¬ s.fpOff ∧ s.fpu.queue = (0x1000#32, 0x87A04822#32) :: [])
    ∧ (∃ s : State, s.psr.s = true ∧ ¬ s.cpOff ∧ s.cp.queue = (0x1000#32, 0x87B04002#32) :: [])
    ∧ ∃ s : State, s.undisturbed ∧ s.fpInExceptionMode ∧ s.cpInExceptionMode := by
  unfold State.fpOff State.cpOff
  refine ⟨⟨rfl, rfl, rfl, rfl⟩, ⟨rfl, rfl, rfl, rfl⟩, undisturbed_of_no_answers rfl rfl, rfl, rfl, rfl, rfl,
    ⟨{ start with cfg := { Config.ordinary with fpsyn := true } }, rfl⟩,
    ⟨{ equipped with fpu := { equipped.fpu with queue := [(0x1000#32, 0x87A04822#32)] } }, rfl, by decide, rfl⟩,
    ⟨{ equipped with cp := { equipped.cp with queue := [(0x1000#32, 0x87B04002#32)] } }, rfl, by decide, rfl⟩,
    ⟨{ equipped with fpu := { equipped.fpu with excMode := true }, cp := { equipped.cp with excMode := true } },
      undisturbed_of_no_answers rfl rfl, ⟨rfl, rfl, rfl, rfl⟩, ⟨rfl, rfl, rfl, rfl⟩⟩⟩

/-- DisabledUnitsTrap, PendingExceptionsTrap: absent, disabled, wrong control parity, an exception pending. -/
theorem test_hyp_units_not_ready :
    start.fpOff ∧ start.cpOff ∧ start.psr.s = true
    ∧ (∃ s : State, s.psr.ef = true ∧ s.fpOff) ∧ (∃ s : State, s.cfg.fpPresent = true ∧ s.fpOff)
    ∧ (∃ s : State, s.cfg.parityInEnabled = true ∧ s.pins.fipar = true)
    ∧ (∃ s : State, ¬ s.fpOff ∧ s.fpu.excPending = true ∧ (s.cfg.parityInEnabled && s.pins.fipar) = false)
    ∧ (∃ s : State, ¬ s.cpOff ∧ s.cp.excPending = true)
    ∧ (effectiveAddress 0#5 (.imm 0x1FF8#13) equipped).extractLsb' 0 3 = 0#3
    ∧ ∃ s : State, s.sample.fexc ≠ [] ∧ s.fpu.excPending = false ∧ s.sample.cexc ≠ [] ∧ s.cp.excPending = false := by
  unfold State.fpOff State.cpOff
  refine ⟨.inl rfl, .inl rfl, rfl, ⟨{ start with psr := { start.psr with ef := true } }, rfl, .inr rfl⟩,
    ⟨{ start with cfg := { Config.ordinary with fpPresent := true } }, rfl, .inl rfl⟩,
    ⟨{ start with cfg := { Config.ordinary with parityInEnabled := true }, pins := { Pins.quiet with fipar := true } }, rfl, rfl⟩,
    ⟨{ equipped with fpu := { equipped.fpu with excPending := true } }, by decide, rfl, rfl⟩,
    ⟨{ equipped with cp := { equipped.cp with excPending := true } }, by decide, rfl⟩, by decide,
    sampled { Pins.quiet with fexc := [(0x500#32, 0x87A04822#32)], cexc := [(0x504#32, 0x87B04002#32)] } equipped, by decide, rfl,
    by decide, rfl⟩

/-- HandlerAddress: two traps that go to one entry. -/
theorem test_hyp_handler :
    (trapEntryAt 0#32 0#32 .illegalInstruction start).pc = (trapEntryAt 4#32 8#32 .illegalInstruction start).pc := by
  decide

end Sys2Proof.Tests
end

section
/-! PROOF. What no instruction changes: the static pins, the platform map, and whether the data that the step loads is bad
(obligations O5 and O8). One lemma for each shared operation, then one case for each family of instructions. -/

namespace Sys2Proof.Machine

/-- What an instruction finds and cannot change: the configuration, the platform map, whether data it loads is suspect, and
whether its step has taken bad data or may yet take some. The last two together say that bad data is never taken where
nothing is suspect (R399, R403). -/
def State.givens (s : State) : Config × List Region × Bool × Bool :=
  (s.cfg, s.platform, s.loadSuspect, s.badLoad || s.loadSuspect)

/-- Two states have the same givens exactly if they agree on the configuration, the map and the suspicion, and on the bad
data where there is no suspicion. -/
theorem givens_eq_iff (t s : State) :
    t.givens = s.givens ↔ t.cfg = s.cfg ∧ t.platform = s.platform ∧ t.loadSuspect = s.loadSuspect
      ∧ (s.loadSuspect = false → t.badLoad = s.badLoad) := by
  simp only [State.givens, Prod.mk.injEq]
  constructor
  · rintro ⟨hc, hp, hl, hb⟩
    exact ⟨hc, hp, hl, fun h => by simpa [hl, h] using hb⟩
  · rintro ⟨hc, hp, hl, hb⟩
    refine ⟨hc, hp, hl, ?_⟩
    cases h : s.loadSuspect
    · simp [hl, h, hb h]
    · simp [hl, h]

/-- The givens depend on four fields only. -/
theorem givens_congr {s t : State} (hc : t.cfg = s.cfg) (hp : t.platform = s.platform) (hi : t.pins = s.pins)
    (hb : t.badLoad = s.badLoad) : t.givens = s.givens := by
  simp [State.givens, State.loadSuspect, State.badLoadParity, hc, hp, hi, hb]

/-- The meaning `k` keeps the givens of every state. -/
def KeepsGivens (k : State → Result) : Prop := ∀ s t, k s = .next t → t.givens = s.givens

/-! ### Updates of the state -/

@[simp] theorem drawn_givens (s : State) : s.drawn.givens = s.givens := rfl
@[simp] theorem emit_givens (s : State) (e : Event) : (s.emit e).givens = s.givens := rfl
@[simp] theorem advance_givens (s : State) : s.advance.givens = s.givens := rfl
@[simp] theorem advanceCp_givens (s : State) : s.advanceCp.givens = s.givens := rfl
@[simp] theorem transfer_givens (s : State) (a : Word) : (s.transfer a).givens = s.givens := rfl
@[simp] theorem setIcc_givens (s : State) (f : Icc) : (s.setIcc f).givens = s.givens := rfl
@[simp] theorem setFreg_givens (s : State) (r : Reg) (v : Word) : (s.setFreg r v).givens = s.givens := rfl
@[simp] theorem setCreg_givens (s : State) (r : Reg) (v : Word) : (s.setCreg r v).givens = s.givens := rfl
@[simp] theorem fpuRaises_givens (s : State) : s.fpuRaises.givens = s.givens := rfl
@[simp] theorem cpRaises_givens (s : State) : s.cpRaises.givens = s.givens := rfl
@[simp] theorem popAnswer_givens (s : State) : s.popAnswer.givens = s.givens := rfl
@[simp] theorem storeBytes_givens (s : State) (asi : Asi) (a : Word) (z : AccessSize) (v : Word) :
    (s.storeBytes asi a z v).givens = s.givens := rfl
@[simp] theorem enterReset_givens (s : State) : s.enterReset.givens = s.givens := rfl
@[simp] theorem enterError_givens (s : State) : s.enterError.givens = s.givens := rfl
@[simp] theorem returnFromTrap_givens (s : State) : s.returnFromTrap.givens = s.givens := rfl
@[simp] theorem restartCheck_givens (s : State) (b : Bool) : (s.restartCheck b).givens = s.givens := rfl
@[simp] theorem branch_givens (s : State) (always taken a : Bool) (d : BitVec 22) :
    (s.branch always taken a d).givens = s.givens := rfl
@[simp] theorem putFsr_givens (v : Word) (s : State) : (putFsr v s).givens = s.givens := rfl
@[simp] theorem putCsr_givens (v : Word) (s : State) : (putCsr v s).givens = s.givens := rfl
@[simp] theorem dropFpQueue_givens (s : State) : (dropFpQueue s).givens = s.givens := rfl
@[simp] theorem dropCpQueue_givens (s : State) : (dropCpQueue s).givens = s.givens := rfl

@[simp] theorem setReg_givens (s : State) (r : Reg) (v : Word) : (s.setReg r v).givens = s.givens :=
  givens_congr (by simp) (by simp) (by simp) (by simp)

@[simp] theorem putReg_givens (rd : Reg) (v : Word) (s : State) : (putReg rd v s).givens = s.givens := by simp [putReg]

@[simp] theorem putPair_givens (rd : Reg) (hi lo : Word) (s : State) : (putPair rd hi lo s).givens = s.givens := by
  simp [putPair]

@[simp] theorem putFreg_givens (rd : Reg) (v : Word) (s : State) : (putFreg rd v s).givens = s.givens := by simp [putFreg]

@[simp] theorem putFregPair_givens (rd : Reg) (hi lo : Word) (s : State) : (putFregPair rd hi lo s).givens = s.givens := by
  simp [putFregPair]

@[simp] theorem putCreg_givens (rd : Reg) (v : Word) (s : State) : (putCreg rd v s).givens = s.givens := by simp [putCreg]

@[simp] theorem putCregPair_givens (rd : Reg) (hi lo : Word) (s : State) : (putCregPair rd hi lo s).givens = s.givens := by
  simp [putCregPair]

@[simp] theorem setFregs_givens (value : Nat → Word) (k : Nat) (rs : List Reg) (s : State) :
    (setFregs value k rs s).givens = s.givens := by
  induction rs generalizing k s with
  | nil => rfl
  | cons r rs ih => rw [setFregs, ih, setFreg_givens]

@[simp] theorem trapEntryAt_givens (a b : Word) (t : Trap) (s : State) : (trapEntryAt a b t s).givens = s.givens :=
  givens_congr (by simp) (by simp) (by simp) (by simp)

@[simp] theorem raiseAt_givens (a b : Word) (t : Trap) (s : State) : (raiseAt a b t s).givens = s.givens := by
  rcases raiseAt_cases a b t s with ⟨_, e⟩ | ⟨_, e⟩ <;> simp [e]

/-- The end of a floating-point instruction keeps the givens where its end with a ready FPU does. -/
theorem fpEnds_givens {data : List Word} {ready : State → State} (h : ∀ s, (ready s).givens = s.givens) (s : State) :
    (fpEnds data ready s).givens = s.givens := by
  unfold fpEnds
  split
  · rfl
  · exact h s

theorem cpEnds_givens {data : List Word} {ready : State → State} (h : ∀ s, (ready s).givens = s.givens) (s : State) :
    (cpEnds data ready s).givens = s.givens := by
  unfold cpEnds
  split
  · rfl
  · exact h s

/-! ### Data accesses -/

/-- A data access takes bad data only where data is suspect. -/
theorem Accessed.givens {s t : State} (h : Accessed s t) : t.givens = s.givens := by
  obtain ⟨e, n, b, hb, rfl⟩ := h
  exact (givens_eq_iff _ _).2 ⟨rfl, rfl, rfl, hb⟩

theorem Stored.givens {asi : Asi} {a v : Word} {z : AccessSize} {s t : State} (h : Stored asi a z v s t) :
    t.givens = s.givens := by
  obtain ⟨u, hu, rfl | rfl⟩ := h
  · rw [storeBytes_givens, hu.givens]
  · exact hu.givens

theorem raise_keepsGivens (t : Trap) : KeepsGivens (raise t) := by
  intro s u h
  rw [raise_next.1 h, raiseAt_givens]

theorem next_keepsGivens {f : State → State} (hf : ∀ s, (f s).givens = s.givens) : KeepsGivens fun s => .next (f s) := by
  intro s t h
  cases h
  exact hf s

theorem secondWordRefused_keepsGivens (before : List Host.Cell) : KeepsGivens (secondWordRefused before) := by
  intro s t h
  rw [secondWordRefused_next h, raiseAt_givens]
  rfl

theorem loadOne_keepsGivens (z : AccessSize) (asi : Asi) (a : Word) {finish : Word → State → State}
    (hf : ∀ v s, (finish v s).givens = s.givens) : KeepsGivens (loadOne z asi a finish) := by
  intro s t h
  rcases loadOne_next h with ⟨v, u, hu, rfl⟩ | ⟨u, hu, hr⟩ | rfl
  · rw [hf, hu.givens]
  · rw [raise_keepsGivens _ u t hr, hu.givens]
  · rfl

theorem loadTwo_keepsGivens (asi : Asi) (a : Word) {onExc : State → Result} {finish : Word → Word → State → State}
    (he : KeepsGivens onExc) (hf : ∀ hi lo s, (finish hi lo s).givens = s.givens) :
    KeepsGivens (loadTwo asi a onExc finish) := by
  intro s t h
  rcases loadTwo_next h with ⟨hi, lo, u, u', hu, hu', rfl⟩ | ⟨u, hu, hr⟩ | ⟨u, u', hu, hu', hr⟩ | rfl | ⟨u, hu, rfl⟩
  · rw [hf, hu'.givens, hu.givens]
  · rw [he u t hr, hu.givens]
  · rw [he u' t hr, hu'.givens, hu.givens]
  · rfl
  · rw [enterReset_givens, popAnswer_givens, hu.givens]

theorem storeOne_keepsGivens (z : AccessSize) (asi : Asi) (a v : Word) {finish : State → State}
    (hf : ∀ s, (finish s).givens = s.givens) : KeepsGivens (storeOne z asi a v finish) := by
  intro s t h
  rcases storeOne_next h with ⟨u, hu, rfl⟩ | ⟨u, hu, hr⟩ | rfl
  · rw [hf, hu.givens]
  · rw [raise_keepsGivens _ u t hr, hu.givens]
  · rfl

theorem storeTwo_keepsGivens (asi : Asi) (a hi lo : Word) {finish : State → State}
    (hf : ∀ s, (finish s).givens = s.givens) : KeepsGivens (storeTwo asi a hi lo finish) := by
  intro s t h
  rcases storeTwo_next h with ⟨u, u', hu, hu', rfl⟩ | ⟨u, hu, hr⟩ | ⟨u, u', hu, hu', hr⟩ | rfl | ⟨u, hu, rfl⟩
  · rw [hf, hu'.givens, hu.givens]
  · rw [raise_keepsGivens _ u t hr, hu.givens]
  · rw [secondWordRefused_keepsGivens _ u' t hr, hu'.givens, hu.givens]
  · rfl
  · rw [enterReset_givens, popAnswer_givens, hu.givens]

theorem loadStore_keepsGivens (z : AccessSize) (asi : Asi) (a v : Word) {finish : Word → State → State}
    (hf : ∀ v s, (finish v s).givens = s.givens) : KeepsGivens (loadStore z asi a v finish) := by
  intro s t h
  rcases loadStore_next h with ⟨old, u, u', hu, hu', rfl⟩ | ⟨u, hu, hr⟩ | ⟨u, u', hu, hu', hr⟩ | rfl | ⟨u, hu, rfl⟩
  · rw [hf, hu'.givens, hu.givens]
  · rw [raise_keepsGivens _ u t hr, hu.givens]
  · rw [raise_keepsGivens _ u' t hr, hu'.givens, hu.givens]
  · rfl
  · rw [enterReset_givens, popAnswer_givens, hu.givens]

/-! ### Guards -/

theorem privileged_keepsGivens {k : State → Result} (hk : KeepsGivens k) : KeepsGivens (privileged k) := by
  intro s t h
  rcases privileged_next h with ⟨_, h⟩ | ⟨_, h⟩
  · exact hk s t h
  · exact raise_keepsGivens _ s t h

theorem whenAligned_keepsGivens (z : AccessSize) (a : Word) {k : State → Result} (hk : KeepsGivens k) :
    KeepsGivens (whenAligned z a k) := by
  intro s t h
  rcases whenAligned_next h with ⟨_, h⟩ | ⟨_, h⟩
  · exact hk s t h
  · exact raise_keepsGivens _ s t h

theorem withFp_keepsGivens {k : State → Result} (hk : KeepsGivens k) : KeepsGivens (withFp k) := by
  intro s t h
  rcases withFp_next h with ⟨_, h⟩ | ⟨_, h⟩
  · exact hk s t h
  · exact raise_keepsGivens _ s t h

theorem withCp_keepsGivens {k : State → Result} (hk : KeepsGivens k) : KeepsGivens (withCp k) := by
  intro s t h
  rcases withCp_next h with ⟨_, h⟩ | ⟨_, h⟩
  · exact hk s t h
  · exact raise_keepsGivens _ s t h

theorem launchFp_keepsGivens {k : State → Result} (hk : KeepsGivens k) : KeepsGivens (launchFp k) := by
  intro s t h
  rcases launchFp_next h with ⟨_, h⟩ | ⟨_, h⟩
  · exact raise_keepsGivens _ s t h
  · rw [hk _ t h, emit_givens]

theorem launchCp_keepsGivens {k : State → Result} (hk : KeepsGivens k) : KeepsGivens (launchCp k) := by
  intro s t h
  rcases launchCp_next h with ⟨_, h⟩ | ⟨_, h⟩
  · exact raise_keepsGivens _ s t h
  · rw [hk _ t h, emit_givens]

/-- Either branch of a meaning that decides on the state keeps the givens. -/
theorem ite_keepsGivens {c : State → Prop} [DecidablePred c] {k l : State → Result} (hk : KeepsGivens k)
    (hl : KeepsGivens l) : KeepsGivens fun s => if c s then k s else l s := by
  intro s t h
  dsimp only at h
  split at h
  · exact hk s t h
  · exact hl s t h

/-! ### The shared shapes of instructions -/

theorem writeReg_keepsGivens (rd : Reg) (v : Word) : KeepsGivens (writeReg rd v) := next_keepsGivens fun s => by simp

theorem writeRegCc_keepsGivens (rd : Reg) (v : Word) (f : Icc) : KeepsGivens (writeRegCc rd v f) :=
  next_keepsGivens fun s => by simp

theorem loadReg_keepsGivens (z : AccessSize) (asi : Asi) (a : Word) {finish : Word → State → State}
    (hf : ∀ v s, (finish v s).givens = s.givens) : KeepsGivens (loadReg z asi a finish) :=
  whenAligned_keepsGivens z a (loadOne_keepsGivens z asi a hf)

theorem loadPair_keepsGivens (asi : Asi) (a : Word) (rd : Reg) : KeepsGivens (loadPair asi a rd) :=
  whenAligned_keepsGivens _ a (loadTwo_keepsGivens asi a (raise_keepsGivens _) (putPair_givens rd))

theorem storeReg_keepsGivens (z : AccessSize) (asi : Asi) (a : Word) (rd : Reg) : KeepsGivens (storeReg z asi a rd) :=
  fun s => whenAligned_keepsGivens z a (storeOne_keepsGivens z asi a _ advance_givens) s

theorem storePair_keepsGivens (asi : Asi) (a : Word) (rd : Reg) : KeepsGivens (storePair asi a rd) :=
  fun s => whenAligned_keepsGivens _ a (storeTwo_keepsGivens asi a _ _ advance_givens) s

theorem loadStoreByte_keepsGivens (asi : Asi) (a : Word) (rd : Reg) : KeepsGivens (loadStoreByte asi a rd) :=
  loadStore_keepsGivens _ asi a _ (putReg_givens rd)

theorem swapWord_keepsGivens (asi : Asi) (a : Word) (rd : Reg) : KeepsGivens (swapWord asi a rd) :=
  fun s => whenAligned_keepsGivens _ a (loadStore_keepsGivens _ asi a _ (putReg_givens rd)) s

theorem bicc_keepsGivens (cond : BitVec 4) (a : Bool) (d : BitVec 22) : KeepsGivens (bicc cond a d) :=
  next_keepsGivens fun s => by simp

theorem fbfcc_keepsGivens (cond : BitVec 4) (a : Bool) (d : BitVec 22) : KeepsGivens (fbfcc cond a d) :=
  withFp_keepsGivens (ite_keepsGivens (raise_keepsGivens _)
    (ite_keepsGivens (raise_keepsGivens _) (next_keepsGivens fun s => by simp)))

theorem cbccc_keepsGivens (cond : BitVec 4) (a : Bool) (d : BitVec 22) : KeepsGivens (cbccc cond a d) :=
  withCp_keepsGivens (ite_keepsGivens (raise_keepsGivens _)
    (ite_keepsGivens (next_keepsGivens fun _ => rfl) (next_keepsGivens fun s => by simp)))

theorem ticc_keepsGivens (cond : BitVec 4) (rs1 : Reg) (o2 : Operand2) : KeepsGivens (ticc cond rs1 o2) :=
  ite_keepsGivens (fun s => raise_keepsGivens _ s) (next_keepsGivens advance_givens)

theorem fpop_keepsGivens (opf : BitVec 9) (a b : List Word) {effect : State → State}
    (he : ∀ s, (effect s).givens = s.givens) : KeepsGivens (fpop opf a b effect) :=
  withFp_keepsGivens (launchFp_keepsGivens (next_keepsGivens (fpEnds_givens fun s => by
    dsimp only
    split
    · simp
    · exact he s)))

theorem fpCompute_keepsGivens (opf : BitVec 9) (p : Precision) (rd : Reg) (a b : List Word) :
    KeepsGivens (fpCompute opf p rd a b) := fun s => fpop_keepsGivens opf a b (setFregs_givens _ 0 _) s

theorem fpCopy_keepsGivens (opf : BitVec 9) (rd : Reg) (b : List Word) (v : Word) : KeepsGivens (fpCopy opf rd b v) :=
  fpop_keepsGivens opf [] b fun s => setFreg_givens s rd v

theorem fpCompare_keepsGivens (opf : BitVec 9) (p : Precision) (rs1 rs2 : Reg) :
    KeepsGivens (fpCompare opf p rs1 rs2) := by
  intro s t h
  unfold fpCompare at h
  exact fpop_keepsGivens opf _ _ (fun _ => by rfl) s t h

theorem fpUnimplemented_keepsGivens : KeepsGivens fpUnimplemented :=
  withFp_keepsGivens (launchFp_keepsGivens (next_keepsGivens (fpEnds_givens fun s => by simp)))

/-- Outside exception mode a CPop raises its exception or takes the effect the designer gives it. -/
theorem cpop_keepsGivens (second : Bool) (rd rs1 : Reg) (opc : BitVec 9) (rs2 : Reg) :
    KeepsGivens (cpop second rd rs1 opc rs2) := by
  refine withCp_keepsGivens (launchCp_keepsGivens (next_keepsGivens fun s => ?_))
  refine cpEnds_givens (data := []) (fun s => ?_) s
  split
  · simp
  · rfl

theorem fpMemory_keepsGivens (z : AccessSize) (a : Word) {access : State → Result} (h : KeepsGivens access) :
    KeepsGivens (fpMemory z a access) := withFp_keepsGivens (whenAligned_keepsGivens z a (launchFp_keepsGivens h))

theorem cpMemory_keepsGivens (z : AccessSize) (a : Word) {access : State → Result} (h : KeepsGivens access) :
    KeepsGivens (cpMemory z a access) := withCp_keepsGivens (whenAligned_keepsGivens z a (launchCp_keepsGivens h))

theorem fpPairRefused_keepsGivens (rd : Reg) : KeepsGivens (fpPairRefused rd) :=
  fun s t h => by rw [raise_keepsGivens _ _ t h]; simp

theorem cpPairRefused_keepsGivens (rd : Reg) : KeepsGivens (cpPairRefused rd) :=
  fun s t h => by rw [raise_keepsGivens _ _ t h]; simp

theorem storeFpQueue_keepsGivens (a : Word) : KeepsGivens (storeFpQueue a) := by
  intro s t h
  unfold storeFpQueue at h
  split at h
  · cases h
  · rw [storeTwo_keepsGivens _ _ _ _ dropFpQueue_givens _ t h, emit_givens]

theorem storeCpQueue_keepsGivens (a : Word) : KeepsGivens (storeCpQueue a) := by
  intro s t h
  unfold storeCpQueue at h
  split at h
  · cases h
  · rw [storeTwo_keepsGivens _ _ _ _ dropCpQueue_givens _ t h, emit_givens]

/-! ### Instructions with a shape of their own -/

theorem execMulscc_keepsGivens (rd rs1 : Reg) (o2 : Operand2) : KeepsGivens (execMulscc rd rs1 o2) :=
  fun _ t h => (writeRegCc_keepsGivens _ _ _ _ t h).trans rfl

theorem execTaddcctv_keepsGivens (rd rs1 : Reg) (o2 : Operand2) : KeepsGivens (execTaddcctv rd rs1 o2) :=
  ite_keepsGivens (raise_keepsGivens _) fun s => writeRegCc_keepsGivens _ _ _ s

theorem execTsubcctv_keepsGivens (rd rs1 : Reg) (o2 : Operand2) : KeepsGivens (execTsubcctv rd rs1 o2) :=
  ite_keepsGivens (raise_keepsGivens _) fun s => writeRegCc_keepsGivens _ _ _ s

theorem execPfcheck_keepsGivens (sig : BitVec 16) : KeepsGivens (execPfcheck sig) :=
  ite_keepsGivens
    (ite_keepsGivens (raise_keepsGivens _) (next_keepsGivens fun s => by simp)) (next_keepsGivens advance_givens)

theorem execNop_keepsGivens : KeepsGivens execNop := next_keepsGivens fun s => by split <;> simp

theorem execIflush_keepsGivens (rs1 : Reg) (o2 : Operand2) : KeepsGivens (execIflush rs1 o2) :=
  ite_keepsGivens (next_keepsGivens advance_givens) (raise_keepsGivens _)

theorem execWry_keepsGivens (rs1 : Reg) (o2 : Operand2) : KeepsGivens (execWry rs1 o2) :=
  next_keepsGivens fun _ => rfl

theorem execWrpsr_keepsGivens (rs1 : Reg) (o2 : Operand2) : KeepsGivens (execWrpsr rs1 o2) :=
  ite_keepsGivens (raise_keepsGivens _) fun s => privileged_keepsGivens
    (next_keepsGivens (f := fun u => { u with psr := PSR.ofWord (writeValue rs1 o2 s) }.advance) fun _ => rfl) s

theorem execWrwim_keepsGivens (rs1 : Reg) (o2 : Operand2) : KeepsGivens (execWrwim rs1 o2) :=
  privileged_keepsGivens (next_keepsGivens fun _ => rfl)

theorem execWrtbr_keepsGivens (rs1 : Reg) (o2 : Operand2) : KeepsGivens (execWrtbr rs1 o2) :=
  privileged_keepsGivens (next_keepsGivens fun _ => rfl)

theorem execCall_keepsGivens (d : BitVec 30) : KeepsGivens (execCall d) := next_keepsGivens fun s => by simp

theorem execJmpl_keepsGivens (rd rs1 : Reg) (o2 : Operand2) : KeepsGivens (execJmpl rd rs1 o2) :=
  fun s => whenAligned_keepsGivens _ _
    (next_keepsGivens (f := fun u => (u.setReg rd u.pc).transfer (effectiveAddress rs1 o2 s)) fun u => by simp) s

theorem execRett_keepsGivens (rs1 : Reg) (o2 : Operand2) : KeepsGivens (execRett rs1 o2) :=
  ite_keepsGivens (raise_keepsGivens _) (ite_keepsGivens (raise_keepsGivens _) (ite_keepsGivens (raise_keepsGivens _)
    (ite_keepsGivens (raise_keepsGivens _) (next_keepsGivens fun s => by simp))))

theorem execSave_keepsGivens (rd rs1 : Reg) (o2 : Operand2) : KeepsGivens (execSave rd rs1 o2) :=
  ite_keepsGivens (raise_keepsGivens _) fun _ t h => (writeReg_keepsGivens _ _ _ t h).trans rfl

theorem execRestore_keepsGivens (rd rs1 : Reg) (o2 : Operand2) : KeepsGivens (execRestore rd rs1 o2) :=
  ite_keepsGivens (raise_keepsGivens _) fun _ t h => (writeReg_keepsGivens _ _ _ t h).trans rfl

/-! ### Every instruction -/

/-- No instruction changes the configuration or the platform map, or takes bad data where none is suspect. -/
theorem exec_keepsGivens (i : Instr) : KeepsGivens (exec i) := by
  cases i with
  | call d => exact execCall_keepsGivens d
  | unimp c => exact raise_keepsGivens _
  | nop => exact execNop_keepsGivens
  | pfcheck sig => exact execPfcheck_keepsGivens sig
  | iflush rs1 o2 => exact execIflush_keepsGivens rs1 o2
  | bn a d | be a d | ble a d | bl a d | bleu a d | bcs a d | bneg a d | bvs a d | ba a d | bne a d | bg a d | bge a d
  | bgu a d | bcc a d | bpos a d | bvc a d => exact bicc_keepsGivens _ a d
  | fbn a d | fbne a d | fblg a d | fbul a d | fbl a d | fbug a d | fbg a d | fbu a d | fba a d | fbe a d | fbue a d
  | fbge a d | fbuge a d | fble a d | fbule a d | fbo a d => exact fbfcc_keepsGivens _ a d
  | cbn a d | cb123 a d | cb12 a d | cb13 a d | cb1 a d | cb23 a d | cb2 a d | cb3 a d | cba a d | cb0 a d | cb03 a d
  | cb02 a d | cb023 a d | cb01 a d | cb013 a d | cb012 a d => exact cbccc_keepsGivens _ a d
  | tn rs1 o2 => exact ticc_keepsGivens 0b0000#4 rs1 o2
  | ta rs1 o2 => exact ticc_keepsGivens 0b1000#4 rs1 o2
  | te rs1 o2 | tle rs1 o2 | tl rs1 o2 | tleu rs1 o2 | tcs rs1 o2 | tneg rs1 o2 | tvs rs1 o2 | tne rs1 o2 | tg rs1 o2
  | tge rs1 o2 | tgu rs1 o2 | tcc rs1 o2 | tpos rs1 o2 | tvc rs1 o2 =>
    exact ticc_keepsGivens _ rs1 o2
  | add rd rs1 o2 | addx rd rs1 o2 | sub rd rs1 o2 | subx rd rs1 o2 | and rd rs1 o2 | or rd rs1 o2 | xor rd rs1 o2
  | andn rd rs1 o2 | orn rd rs1 o2 | xnor rd rs1 o2 | sll rd rs1 o2 | srl rd rs1 o2 | sra rd rs1 o2 | sethi rd o2
  | rdy rd => exact fun s => writeReg_keepsGivens rd _ s
  | addcc rd rs1 o2 | addxcc rd rs1 o2 | subcc rd rs1 o2 | subxcc rd rs1 o2 | andcc rd rs1 o2 | orcc rd rs1 o2
  | xorcc rd rs1 o2 | andncc rd rs1 o2 | orncc rd rs1 o2 | xnorcc rd rs1 o2 | taddcc rd rs1 o2 | tsubcc rd rs1 o2 =>
    exact fun s => writeRegCc_keepsGivens rd _ _ s
  | taddcctv rd rs1 o2 => exact execTaddcctv_keepsGivens rd rs1 o2
  | tsubcctv rd rs1 o2 => exact execTsubcctv_keepsGivens rd rs1 o2
  | mulscc rd rs1 o2 => exact execMulscc_keepsGivens rd rs1 o2
  | rdpsr rd | rdwim rd | rdtbr rd => exact fun s => privileged_keepsGivens (writeReg_keepsGivens rd _) s
  | wry rs1 o2 => exact execWry_keepsGivens rs1 o2
  | wrpsr rs1 o2 => exact execWrpsr_keepsGivens rs1 o2
  | wrwim rs1 o2 => exact execWrwim_keepsGivens rs1 o2
  | wrtbr rs1 o2 => exact execWrtbr_keepsGivens rs1 o2
  | jmpl rd rs1 o2 => exact execJmpl_keepsGivens rd rs1 o2
  | rett rs1 o2 => exact execRett_keepsGivens rs1 o2
  | save rd rs1 o2 => exact execSave_keepsGivens rd rs1 o2
  | restore rd rs1 o2 => exact execRestore_keepsGivens rd rs1 o2
  | fmovs rd rs2 | fnegs rd rs2 | fabss rd rs2 => exact fun s => fpCopy_keepsGivens _ rd _ _ s
  | fsqrts rd rs2 | fsqrtd rd rs2 | fsqrtx rd rs2 | fitos rd rs2 | fdtos rd rs2 | fxtos rd rs2 | fitod rd rs2
  | fstod rd rs2 | fxtod rd rs2 | fitox rd rs2 | fstox rd rs2 | fdtox rd rs2 | fstoi rd rs2 | fdtoi rd rs2
  | fxtoi rd rs2 => exact fun s => fpCompute_keepsGivens _ _ rd _ _ s
  | fadds rd rs1 rs2 | faddd rd rs1 rs2 | faddx rd rs1 rs2 | fsubs rd rs1 rs2 | fsubd rd rs1 rs2 | fsubx rd rs1 rs2
  | fmuls rd rs1 rs2 | fmuld rd rs1 rs2 | fmulx rd rs1 rs2 | fdivs rd rs1 rs2 | fdivd rd rs1 rs2 | fdivx rd rs1 rs2 =>
    exact fun s => fpCompute_keepsGivens _ _ rd _ _ s
  | fcmps rs1 rs2 | fcmpd rs1 rs2 | fcmpx rs1 rs2 | fcmpes rs1 rs2 | fcmped rs1 rs2 | fcmpex rs1 rs2 =>
    exact fpCompare_keepsGivens _ _ rs1 rs2
  | fpop1 rd rs1 opf rs2 | fpop2 rd rs1 opf rs2 => exact fpUnimplemented_keepsGivens
  | cpop1 rd rs1 opc rs2 | cpop2 rd rs1 opc rs2 => exact cpop_keepsGivens _ rd rs1 opc rs2
  | ldsb rd rs1 o2 | ldub rd rs1 o2 => exact fun s => loadReg_keepsGivens .byte _ _ (fun _ => putReg_givens rd _) s
  | ldsh rd rs1 o2 | lduh rd rs1 o2 | ld rd rs1 o2 =>
    exact fun s => loadReg_keepsGivens _ _ _ (fun _ => putReg_givens rd _) s
  | ldd rd rs1 o2 => exact fun s => loadPair_keepsGivens _ _ rd s
  | stb rd rs1 o2 => exact fun s => storeReg_keepsGivens .byte _ _ rd s
  | sth rd rs1 o2 | st rd rs1 o2 => exact fun s => storeReg_keepsGivens _ _ _ rd s
  | std rd rs1 o2 => exact fun s => storePair_keepsGivens _ _ rd s
  | ldstub rd rs1 o2 => exact fun s => loadStoreByte_keepsGivens _ _ rd s
  | swap rd rs1 o2 => exact fun s => swapWord_keepsGivens _ _ rd s
  | ldsba rd rs1 rs2 asi | ldsha rd rs1 rs2 asi | lduba rd rs1 rs2 asi | lduha rd rs1 rs2 asi | lda rd rs1 rs2 asi =>
    exact fun s => privileged_keepsGivens (loadReg_keepsGivens _ asi _ fun _ => putReg_givens rd _) s
  | ldda rd rs1 rs2 asi => exact fun s => privileged_keepsGivens (loadPair_keepsGivens asi _ rd) s
  | stba rd rs1 rs2 asi | stha rd rs1 rs2 asi | sta rd rs1 rs2 asi =>
    exact fun s => privileged_keepsGivens (storeReg_keepsGivens _ asi _ rd) s
  | stda rd rs1 rs2 asi => exact fun s => privileged_keepsGivens (storePair_keepsGivens asi _ rd) s
  | ldstuba rd rs1 rs2 asi => exact fun s => privileged_keepsGivens (loadStoreByte_keepsGivens asi _ rd) s
  | swapa rd rs1 rs2 asi => exact fun s => privileged_keepsGivens (swapWord_keepsGivens asi _ rd) s
  | ldf rd rs1 o2 =>
    exact fun s => fpMemory_keepsGivens _ _ (loadOne_keepsGivens _ _ _ fun v => fpEnds_givens (putFreg_givens rd v)) s
  | ldfsr rs1 o2 =>
    exact fun s => fpMemory_keepsGivens _ _ (loadOne_keepsGivens _ _ _ fun v => fpEnds_givens (putFsr_givens v)) s
  | lddf rd rs1 o2 =>
    exact fun s => fpMemory_keepsGivens _ _ (loadTwo_keepsGivens _ _ (fpPairRefused_keepsGivens rd)
      fun hi lo => fpEnds_givens (putFregPair_givens rd hi lo)) s
  | stf rd rs1 o2 | stfsr rs1 o2 =>
    exact fun s => fpMemory_keepsGivens _ _ (storeOne_keepsGivens _ _ _ _ (fpEnds_givens advance_givens)) s
  | stdf rd rs1 o2 =>
    exact fun s => fpMemory_keepsGivens _ _ (storeTwo_keepsGivens _ _ _ _ (fpEnds_givens advance_givens)) s
  | stdfq rs1 o2 =>
    exact fun s => privileged_keepsGivens
      (withFp_keepsGivens (whenAligned_keepsGivens _ _ (storeFpQueue_keepsGivens _))) s
  | ldc rd rs1 o2 =>
    exact fun s => cpMemory_keepsGivens _ _ (loadOne_keepsGivens _ _ _ fun v => cpEnds_givens (putCreg_givens rd v)) s
  | ldcsr rs1 o2 =>
    exact fun s => cpMemory_keepsGivens _ _ (loadOne_keepsGivens _ _ _ fun v => cpEnds_givens (putCsr_givens v)) s
  | lddc rd rs1 o2 =>
    exact fun s => cpMemory_keepsGivens _ _ (loadTwo_keepsGivens _ _ (cpPairRefused_keepsGivens rd)
      fun hi lo => cpEnds_givens (putCregPair_givens rd hi lo)) s
  | stc rd rs1 o2 | stcsr rs1 o2 =>
    exact fun s => cpMemory_keepsGivens _ _ (storeOne_keepsGivens _ _ _ _ (cpEnds_givens advanceCp_givens)) s
  | stdc rd rs1 o2 =>
    exact fun s => cpMemory_keepsGivens _ _ (storeTwo_keepsGivens _ _ _ _ (cpEnds_givens advanceCp_givens)) s
  | stdcq rs1 o2 =>
    exact fun s => privileged_keepsGivens
      (withCp_keepsGivens (whenAligned_keepsGivens _ _ (storeCpQueue_keepsGivens _))) s

end Sys2Proof.Machine
end

section
/-! PROOF. What a step keeps whatever happens (O8), and what it runs where nothing does (O5). -/

namespace Sys2Proof.Machine

/-! ### The configuration and the platform map over a step (R10, D10) -/

/-- `t` has the static pins and the platform map of `s`. -/
def SameBoard (s t : State) : Prop := t.cfg = s.cfg ∧ t.platform = s.platform

/-- The meaning `k` changes neither the static pins nor the platform map. -/
def KeepsBoard (k : State → Result) : Prop := ∀ s t, k s = .next t → SameBoard s t

theorem SameBoard.trans {s t u : State} (h : SameBoard s t) (h' : SameBoard t u) : SameBoard s u :=
  ⟨h'.1.trans h.1, h'.2.trans h.2⟩

theorem sameBoard_of_givens {s t : State} (h : t.givens = s.givens) : SameBoard s t :=
  ⟨congrArg Prod.fst h, congrArg (fun g => g.2.1) h⟩

theorem raiseAt_sameBoard (a b : Word) (t : Trap) (s : State) : SameBoard s (raiseAt a b t s) :=
  sameBoard_of_givens (raiseAt_givens a b t s)

theorem raise_keepsBoard (t : Trap) : KeepsBoard (raise t) := fun s u h =>
  sameBoard_of_givens (raise_keepsGivens t s u h)

theorem takeInterrupt_sameBoard (level : BitVec 4) (s : State) : SameBoard s (takeInterrupt level s) :=
  sameBoard_of_givens (trapEntryAt_givens _ _ _ s)

theorem raiseError_keepsBoard (e : HwError) : KeepsBoard (raiseError e) := by
  intro s t h
  cases e with
  | imprecise => cases h; exact raiseAt_sameBoard _ _ _ s.drawn.drawn
  | nonRestartablePrecise | registerFile | restartableLate | restartablePrecise | programFlow =>
    exact raise_keepsBoard _ s t h

/-- The state an access ends in, however it ends. -/
def Access.state : Access → State
  | .ok _ s => s
  | .exception s => s
  | .reset s => s

theorem busFetch_sameBoard (s : State) : SameBoard s (busFetch s).state := by
  rcases busFetch_cases s with ⟨w, n, e⟩ | e <;> rw [e] <;> exact ⟨rfl, rfl⟩

theorem annulledStep_keepsBoard : KeepsBoard annulledStep := by
  intro s t h
  have fetched := busFetch_sameBoard s
  unfold annulledStep at h
  cases e : busFetch s with
  | ok w u => rw [e] at h fetched; cases h; exact fetched
  | exception u => rw [e] at h fetched; cases h; exact fetched
  | reset u => rw [e] at h fetched; cases h; exact fetched

theorem runWord_keepsBoard {run : Instr → State → Result} (hrun : ∀ i, KeepsBoard (run i)) (w : Word) :
    KeepsBoard (runWord run w) := by
  intro s t h
  unfold runWord at h
  split at h
  · exact hrun _ { s with ir := w } t h
  · exact raise_keepsBoard _ { s with ir := w } t h

/-- A late error leaves the board of the state before its instruction. -/
theorem lateError_sameBoard {reported : Bool} {before t : State} {r : Result} (h : lateError reported before r = .next t)
    (hr : ∀ u, r = .next u → SameBoard before u) : SameBoard before t := by
  obtain ⟨u, e, rfl | ⟨_, rfl⟩ | ⟨_, rfl⟩⟩ := lateError_next h
  · exact hr _ e
  · exact raiseAt_sameBoard _ _ _ (supersede before u)
  · exact (hr u e).trans (raiseAt_sameBoard _ _ _ u)

/-- A hardware error, a refused fetch and the instruction at PC each keep the board. -/
theorem instructionStep_keepsBoard {run : Instr → State → Result} (hrun : ∀ i, KeepsBoard (run i)) :
    KeepsBoard (instructionStep run) := by
  intro s t h
  have fetched := busFetch_sameBoard s
  unfold instructionStep at h
  cases e : busFetch s with
  | ok w u =>
    rw [e] at h fetched
    have late (reported : Bool) (hl : lateError reported { u with ir := w } (runWord run w u) = .next t) :
        SameBoard s t :=
      fetched.trans (lateError_sameBoard (before := { u with ir := w }) hl (runWord_keepsBoard hrun w u))
    dsimp only at h
    split at h
    · exact late true h
    · exact fetched.trans (raiseError_keepsBoard _ u t h)
    · exact late false h
  | exception u =>
    rw [e] at h fetched
    dsimp only at h
    split at h
    · cases h
      exact fetched.trans (raiseAt_sameBoard _ _ _ u)
    · exact fetched.trans (raiseError_keepsBoard _ u t h)
    · exact fetched.trans (raise_keepsBoard _ u t h)
  | reset u => rw [e] at h fetched; cases h; exact fetched

theorem executeStep_keepsBoard {run : Instr → State → Result} (hrun : ∀ i, KeepsBoard (run i)) :
    KeepsBoard (executeStep run) := by
  intro s t h
  unfold executeStep at h
  split at h
  · cases h
    exact takeInterrupt_sameBoard _ s
  · split at h
    · exact annulledStep_keepsBoard s t h
    · exact instructionStep_keepsBoard hrun s t h

/-- A step after its sample keeps the board in every mode. -/
theorem sampledStep_keepsBoard {run : Instr → State → Result} (hrun : ∀ i, KeepsBoard (run i)) :
    KeepsBoard (sampledStep run) := by
  intro s t h
  unfold sampledStep at h
  split at h
  · cases h
  split at h
  · cases h; exact ⟨rfl, rfl⟩
  split at h
  · cases h; exact ⟨rfl, rfl⟩
  split at h
  · cases h; exact ⟨rfl, rfl⟩
  split at h
  · cases h; exact ⟨rfl, rfl⟩
  · cases h; exact ⟨rfl, rfl⟩
  · exact executeStep_keepsBoard hrun s.settleHwerror t h

theorem exec_keepsBoard (i : Instr) : KeepsBoard (exec i) := fun s t h =>
  sameBoard_of_givens (exec_keepsGivens i s t h)

theorem step_keepsBoard : KeepsBoard step := fun s t h => sampledStep_keepsBoard exec_keepsBoard s.nextSample t h

/-- With FPSYN high the configuration is refused before anything else of the step is looked at (R436). -/
theorem step_of_fpsyn {s : State} (h : s.cfg.fpsyn = true) : step s = .refused .fpsynHigh := by
  unfold step sampledStep
  rw [State.nextSample_cfg, if_pos h]

/-- Settles O8: the board is among the givens no instruction changes, and no other part of a step touches it. -/
theorem stepKeepsConfiguration : Obligations.StepKeepsConfiguration :=
  ⟨step_keepsBoard, fun _ => step_of_fpsyn⟩

/-! ### A step that nothing from outside disturbs (R16, R59, R78, R84) -/

/-- Taking a sample in which no other master writes and no unit drives its lines changes the model's record only. -/
theorem nextSample_of_still {s : State} (h : s.sample.still) :
    s.nextSample = { s with pins := s.sample, env := s.env.tail, events := [], wrote := [], badLoad := false } := by
  obtain ⟨hmem, hfcc, hfexc, hccc, hcexc⟩ := h
  have hfpu : s.sample.onFpu s.fpu = s.fpu := by simp [Pins.onFpu, hfcc, hfexc]
  have hcp : s.sample.onCp s.cp = s.cp := by simp [Pins.onCp, hccc, hcexc]
  have hm : writeCells s.mem s.sample.masterWrites = s.mem := by rw [hmem, writeCells_nil]
  change { s with
    pins := s.sample, env := s.env.tail, events := [], wrote := [], badLoad := false
    fpu := s.sample.onFpu s.fpu, cp := s.sample.onCp s.cp, mem := writeCells s.mem s.sample.masterWrites } = _
  rw [hfpu, hcp, hm]

/-- A fetch of storage that is not refused and to which no recent instruction has stored. -/
theorem busFetch_storage {s : State} (hm : s.pins.fetchMexc = false) (hk : s.readable s.fetchAsi s.pc)
    (hs : s.fetchSettled = true) : busFetch s = .ok s.currentWord s.afterFetch := by
  rcases hk with hk | hk <;> simp [busFetch, hm, hk, hs, State.fetchedWord]

/-- The interrupt condition of R361, as the model computes it. -/
theorem interruptDue_iff (s : State) : s.interruptDue = true ↔ InterruptRequested s s.pins := by
  simp [State.interruptDue, InterruptRequested, BitVec.lt_def, and_assoc]

/-- Nothing reported and good parity: the instruction at PC has no hardware error. -/
theorem instructionErrors_of_faultless {s : State} (h : s.pins.faultless) : s.instructionErrors = [] := by
  obtain ⟨herr, _, hpar, _⟩ := h
  simp [State.instructionErrors, herr, hpar]

theorem loadSuspect_of_faultless {s : State} (h : s.pins.faultless) : s.loadSuspect = false := by
  obtain ⟨herr, _, _, hpar⟩ := h
  simp [State.loadSuspect, State.badLoadParity, herr, hpar]

/-- No instruction takes bad data where nothing is suspect. -/
theorem exec_badLoad {i : Instr} {s t : State} (hl : s.loadSuspect = false) (h : exec i s = .next t) :
    t.badLoad = s.badLoad :=
  have ⟨_, _, _, hbad⟩ := (givens_eq_iff t s).1 (exec_keepsGivens i s t h)
  hbad hl

/-- Without a report and without bad data there is no late error. -/
theorem lateError_none {before : State} {r : Result} (h : ∀ t, r = .next t → t.badLoad = false) :
    lateError false before r = r := by
  cases r with
  | next t => simp [lateError, h t rfl]
  | fault f => rfl
  | refused f => rfl

/-- In execute mode, with no interrupt due, no annul and nothing wrong, a step runs the word at PC. -/
theorem executeStep_runs {s : State} {i : Instr} (hann : s.annulNext = false) (hbad : s.badLoad = false)
    (hf : s.pins.faultless) (hint : ¬ InterruptRequested s s.pins) (hk : s.readable s.fetchAsi s.pc)
    (hset : s.fetchSettled = true) (hdec : decode s.currentWord = .ok i) :
    executeStep exec s = exec i { s.afterFetch with ir := s.currentWord } := by
  have hnot : s.interruptDue = false := by rwa [← interruptDue_iff, Bool.not_eq_true] at hint
  have hrun : runWord exec s.currentWord s.afterFetch = exec i { s.afterFetch with ir := s.currentWord } := by
    simp [runWord, hdec]
  have herr : topError s.afterFetch.instructionErrors = none := by
    rw [instructionErrors_of_faultless (s := s.afterFetch) hf]; rfl
  have hfetch : busFetch s = .ok s.currentWord s.afterFetch := by
    obtain ⟨_, hmexc, _⟩ := hf
    exact busFetch_storage hmexc hk hset
  have hload : ({ s.afterFetch with ir := s.currentWord } : State).loadSuspect = false := loadSuspect_of_faultless hf
  simp only [executeStep, hnot, hann, Bool.false_and, Bool.false_eq_true, if_false, instructionStep, hfetch, herr, hrun]
  exact lateError_none fun t ht => (exec_badLoad hload ht).trans hbad

/-- In execute mode, with neither RESET nor a hold, what a step does is `executeStep`. -/
theorem sampledStep_execute {run : Instr → State → Result} {s : State} (hrun : s.running) (hp : s.pins.unheld) :
    sampledStep run s = executeStep run s.settleHwerror := by
  obtain ⟨hmode, hfpsyn⟩ := hrun
  obtain ⟨hreset, hfault, hhalt, hhold, _⟩ := hp
  simp [sampledStep, hmode, hfpsyn, hreset, hfault, hhalt, hhold]

/-- Settles O5: no late error can follow, since nothing that the instruction loads is suspect. -/
theorem stepRunsDecodedInstruction : Obligations.StepRunsDecodedInstruction := by
  intro s i hrun hann hp hf hint hk hset hdec
  have hstep : step s = executeStep exec s.nextSample.settleHwerror :=
    sampledStep_execute (s := s.nextSample) hrun hp
  obtain ⟨_, _, _, _, hstill⟩ := hp
  rw [hstep, nextSample_of_still hstill]
  exact executeStep_runs hann rfl hf hint hk hset hdec

end Sys2Proof.Machine
end

section
/-! PROOF. A unit with an exception pending makes the next instruction for it trap (O60): the shared shapes of the unit
instructions first, then each list of instructions as one shape. -/

namespace Sys2Proof.Machine

/-! ### The shapes of the unit instructions -/

/-- Every FBfcc is `fbfcc` of its cond field. -/
theorem exec_fbfccForms {a : Bool} {d : BitVec 22} {i : Instr} (h : i ∈ fbfccForms a d) :
    ∃ cond, exec i = fbfcc cond a d := by
  revert i
  simp only [fbfccForms, List.forall_mem_cons, List.not_mem_nil, false_implies, implies_true, and_true]
  and_intros <;> exact ⟨_, rfl⟩

/-- Every CBccc is `cbccc` of its cond field. -/
theorem exec_cbcccForms {a : Bool} {d : BitVec 22} {i : Instr} (h : i ∈ cbcccForms a d) :
    ∃ cond, exec i = cbccc cond a d := by
  revert i
  simp only [cbcccForms, List.forall_mem_cons, List.not_mem_nil, false_implies, implies_true, and_true]
  and_intros <;> exact ⟨_, rfl⟩

/-- Every FPop, named or not, is launched by an enabled FPU before anything else. -/
theorem exec_fpopForms {rd rs1 rs2 : Reg} {opf : BitVec 9} {i : Instr} (h : i ∈ fpopForms rd rs1 rs2 opf) (s : State) :
    ∃ k, exec i s = withFp (launchFp k) s := by
  revert i
  simp only [fpopForms, List.forall_mem_cons, List.not_mem_nil, false_implies, implies_true, and_true]
  and_intros <;> exact ⟨_, rfl⟩

/-- Both CPops are launched by an enabled coprocessor before anything else. -/
theorem exec_cpopForms {rd rs1 rs2 : Reg} {opc : BitVec 9} {i : Instr}
    (h : i ∈ [Instr.cpop1 rd rs1 opc rs2, .cpop2 rd rs1 opc rs2]) (s : State) :
    ∃ k, exec i s = withCp (launchCp k) s := by
  simp only [List.mem_cons, List.not_mem_nil, or_false] at h
  rcases h with rfl | rfl <;> exact ⟨_, rfl⟩

theorem exec_fpWordForms {rd rs1 : Reg} {o2 : Operand2} {i : Instr} (h : i ∈ fpWordForms rd rs1 o2) (s : State) :
    ∃ access, exec i s = fpMemory .word (effectiveAddress rs1 o2 s) access s := by
  simp only [fpWordForms, List.mem_cons, List.not_mem_nil, or_false] at h
  rcases h with rfl | rfl | rfl | rfl <;> exact ⟨_, rfl⟩

theorem exec_fpDoubleForms {rd rs1 : Reg} {o2 : Operand2} {i : Instr} (h : i ∈ fpDoubleForms rd rs1 o2) (s : State) :
    ∃ access, exec i s = fpMemory .double (effectiveAddress rs1 o2 s) access s := by
  simp only [fpDoubleForms, List.mem_cons, List.not_mem_nil, or_false] at h
  rcases h with rfl | rfl <;> exact ⟨_, rfl⟩

theorem exec_cpWordForms {rd rs1 : Reg} {o2 : Operand2} {i : Instr} (h : i ∈ cpWordForms rd rs1 o2) (s : State) :
    ∃ access, exec i s = cpMemory .word (effectiveAddress rs1 o2 s) access s := by
  simp only [cpWordForms, List.mem_cons, List.not_mem_nil, or_false] at h
  rcases h with rfl | rfl | rfl | rfl <;> exact ⟨_, rfl⟩

theorem exec_cpDoubleForms {rd rs1 : Reg} {o2 : Operand2} {i : Instr} (h : i ∈ cpDoubleForms rd rs1 o2) (s : State) :
    ∃ access, exec i s = cpMemory .double (effectiveAddress rs1 o2 s) access s := by
  simp only [cpDoubleForms, List.mem_cons, List.not_mem_nil, or_false] at h
  rcases h with rfl | rfl <;> exact ⟨_, rfl⟩

/-! ### Guards that let an instruction on -/

theorem fpEnabled_iff (s : State) : s.fpEnabled = true ↔ ¬ s.fpOff := by simp [State.fpEnabled, State.fpOff]

theorem cpEnabled_iff (s : State) : s.cpEnabled = true ↔ ¬ s.cpOff := by simp [State.cpEnabled, State.cpOff]

theorem withFp_of_on {s : State} (h : ¬ s.fpOff) (k : State → Result) : withFp k s = k s :=
  if_pos ((fpEnabled_iff s).2 h)

theorem withCp_of_on {s : State} (h : ¬ s.cpOff) (k : State → Result) : withCp k s = k s :=
  if_pos ((cpEnabled_iff s).2 h)

theorem whenAligned_of_aligned {z : AccessSize} {a : Word} (h : aligned z a = true) (k : State → Result) (s : State) :
    whenAligned z a k s = k s := if_pos h

theorem aligned_word_of {a : Word} (h : a.extractLsb' 0 2 = 0#2) : aligned .word a = true := by simp [aligned, h]

theorem aligned_double_of {a : Word} (h : a.extractLsb' 0 3 = 0#3) : aligned .double a = true := by simp [aligned, h]

/-! ### An exception pending (R343, R344) -/

theorem launchFp_pending {s : State} (h : s.fpu.excPending = true) (k : State → Result) :
    launchFp k s = raise .fpException s := if_pos h

theorem launchCp_pending {s : State} (h : s.cp.excPending = true) (k : State → Result) :
    launchCp k s = raise .cpException s := if_pos h

theorem fbfcc_pending {s : State} (hon : ¬ s.fpOff) (hpar : (s.cfg.parityInEnabled && s.pins.fipar) = false)
    (h : s.fpu.excPending = true) (cond : BitVec 4) (a : Bool) (d : BitVec 22) :
    fbfcc cond a d s = raise .fpException s := by
  simp only [fbfcc, withFp_of_on hon, hpar, h, Bool.false_eq_true, if_false, if_true]

theorem cbccc_pending {s : State} (hon : ¬ s.cpOff) (h : s.cp.excPending = true) (cond : BitVec 4) (a : Bool)
    (d : BitVec 22) : cbccc cond a d s = raise .cpException s := by
  simp [cbccc, withCp_of_on hon, h]

theorem fpMemory_pending {s : State} (hon : ¬ s.fpOff) (h : s.fpu.excPending = true) {z : AccessSize} {a : Word}
    (ha : aligned z a = true) (access : State → Result) : fpMemory z a access s = raise .fpException s := by
  rw [fpMemory, withFp_of_on hon, whenAligned_of_aligned ha, launchFp_pending h]

theorem cpMemory_pending {s : State} (hon : ¬ s.cpOff) (h : s.cp.excPending = true) {z : AccessSize} {a : Word}
    (ha : aligned z a = true) (access : State → Result) : cpMemory z a access s = raise .cpException s := by
  rw [cpMemory, withCp_of_on hon, whenAligned_of_aligned ha, launchCp_pending h]

/-- What the FPU's instructions do with its exception pending. -/
theorem fp_pending_traps {s : State} (rd rs1 rs2 : Reg) (o2 : Operand2) (opf : BitVec 9) (a : Bool) (d : BitVec 22)
    (hon : ¬ s.fpOff) (h : s.fpu.excPending = true) :
    ((s.cfg.parityInEnabled && s.pins.fipar) = false → ∀ i ∈ fbfccForms a d, Traps .fpException i s)
    ∧ (∀ i ∈ fpopForms rd rs1 rs2 opf, Traps .fpException i s)
    ∧ ((effectiveAddress rs1 o2 s).extractLsb' 0 2 = 0#2 → ∀ i ∈ fpWordForms rd rs1 o2, Traps .fpException i s)
    ∧ ((effectiveAddress rs1 o2 s).extractLsb' 0 3 = 0#3 → ∀ i ∈ fpDoubleForms rd rs1 o2, Traps .fpException i s) := by
  refine ⟨fun hpar i hi => ?_, fun i hi => ?_, fun ha i hi => ?_, fun ha i hi => ?_⟩
  · obtain ⟨cond, e⟩ := exec_fbfccForms hi
    rw [Traps, e, fbfcc_pending hon hpar h, raise]
  · obtain ⟨k, e⟩ := exec_fpopForms hi s
    rw [Traps, e, withFp_of_on hon, launchFp_pending h, raise]
  · obtain ⟨access, e⟩ := exec_fpWordForms hi s
    rw [Traps, e, fpMemory_pending hon h (aligned_word_of ha), raise]
  · obtain ⟨access, e⟩ := exec_fpDoubleForms hi s
    rw [Traps, e, fpMemory_pending hon h (aligned_double_of ha), raise]

/-- What the coprocessor's instructions do with its exception pending. -/
theorem cp_pending_traps {s : State} (rd rs1 rs2 : Reg) (o2 : Operand2) (opc : BitVec 9) (a : Bool) (d : BitVec 22)
    (hon : ¬ s.cpOff) (h : s.cp.excPending = true) :
    (∀ i ∈ cbcccForms a d ++ [.cpop1 rd rs1 opc rs2, .cpop2 rd rs1 opc rs2], Traps .cpException i s)
    ∧ ((effectiveAddress rs1 o2 s).extractLsb' 0 2 = 0#2 → ∀ i ∈ cpWordForms rd rs1 o2, Traps .cpException i s)
    ∧ ((effectiveAddress rs1 o2 s).extractLsb' 0 3 = 0#3 → ∀ i ∈ cpDoubleForms rd rs1 o2, Traps .cpException i s) := by
  refine ⟨fun i hi => ?_, fun ha i hi => ?_, fun ha i hi => ?_⟩
  · rcases List.mem_append.1 hi with hi | hi
    · obtain ⟨cond, e⟩ := exec_cbcccForms hi
      rw [Traps, e, cbccc_pending hon h, raise]
    · obtain ⟨k, e⟩ := exec_cpopForms hi s
      rw [Traps, e, withCp_of_on hon, launchCp_pending h, raise]
  · obtain ⟨access, e⟩ := exec_cpWordForms hi s
    rw [Traps, e, cpMemory_pending hon h (aligned_word_of ha), raise]
  · obtain ⟨access, e⟩ := exec_cpDoubleForms hi s
    rw [Traps, e, cpMemory_pending hon h (aligned_double_of ha), raise]

/-! ### The acknowledgement (R55, R434) -/

theorem raiseAt_fpu (a b : Word) (t : Trap) (s : State) : (raiseAt a b t s).fpu = t.fpuAfter s.fpu := by
  rcases raiseAt_cases a b t s with ⟨_, e⟩ | ⟨_, e⟩ <;> simp [e]

theorem raiseAt_cp (a b : Word) (t : Trap) (s : State) : (raiseAt a b t s).cp = t.cpAfter s.cp := by
  rcases raiseAt_cases a b t s with ⟨_, e⟩ | ⟨_, e⟩ <;> simp [e]

/-- fp_exception ends the pending exception, and exception mode is entered where the queue has entries. -/
theorem fpException_acknowledges (a b : Word) (s : State) :
    (raiseAt a b .fpException s).fpu.excPending = false
    ∧ ((raiseAt a b .fpException s).fpu.excMode = true ↔ s.fpu.queue ≠ []) := by
  simp [raiseAt_fpu, Trap.fpuAfter, acknowledgeFp]

theorem cpException_acknowledges (a b : Word) (s : State) :
    (raiseAt a b .cpException s).cp.excPending = false
    ∧ ((raiseAt a b .cpException s).cp.excMode = true ↔ s.cp.queue ≠ []) := by
  simp [raiseAt_cp, Trap.cpAfter, acknowledgeCp]

/-! ### An exception the environment asserts (R11, log 53) -/

/-- A new assertion of FEXC puts the unfinished instructions behind the queue. -/
theorem onFpu_asserts {p : Pins} {u : Fpu} (hp : p.fexc ≠ []) (hu : u.excPending = false) :
    (p.onFpu u).excPending = true ∧ (p.onFpu u).queue = u.queue ++ p.fexc ∧ (p.onFpu u).excMode = u.excMode := by
  rcases onFpu_cases p u with ⟨h | h, _⟩ | ⟨_, _, f, fsr, e⟩
  · simp [hu] at h
  · exact absurd h hp
  · simp [e]

/-- While an exception is pending the FPU's lines change neither the queue nor that. -/
theorem onFpu_pending (p : Pins) {u : Fpu} (hu : u.excPending = true) :
    (p.onFpu u).queue = u.queue ∧ (p.onFpu u).excPending = true := by
  rcases onFpu_cases p u with ⟨_, e⟩ | ⟨h, _⟩
  · simp [e, hu]
  · simp [hu] at h

theorem onCp_asserts {p : Pins} {u : Coprocessor} (hp : p.cexc ≠ []) (hu : u.excPending = false) :
    (p.onCp u).excPending = true ∧ (p.onCp u).queue = u.queue ++ p.cexc ∧ (p.onCp u).excMode = u.excMode := by
  rcases onCp_cases p u with ⟨h | h, _⟩ | ⟨_, _, c, csr, e⟩
  · simp [hu] at h
  · exact absurd h hp
  · simp [e]

theorem onCp_pending (p : Pins) {u : Coprocessor} (hu : u.excPending = true) :
    (p.onCp u).queue = u.queue ∧ (p.onCp u).excPending = true := by
  rcases onCp_cases p u with ⟨_, e⟩ | ⟨h, _⟩
  · simp [e, hu]
  · simp [hu] at h

/-- An FEXC asserted in the sample leads, once fp_exception is taken, to exception mode. -/
theorem nextSample_fexc {s : State} (hp : s.sample.fexc ≠ []) (hu : s.fpu.excPending = false) (a b : Word) :
    s.nextSample.fpu.excPending = true ∧ s.nextSample.fpu.queue = s.fpu.queue ++ s.sample.fexc
    ∧ s.nextSample.fpu.excMode = s.fpu.excMode ∧ (raiseAt a b .fpException s.nextSample).fpu.excMode = true := by
  obtain ⟨hpend, hqueue, hmode⟩ := onFpu_asserts hp hu
  obtain ⟨_, hack⟩ := fpException_acknowledges a b s.nextSample
  have hne : s.nextSample.fpu.queue ≠ [] := fun e => hp (List.append_eq_nil_iff.1 (hqueue.symm.trans e)).2
  exact ⟨hpend, hqueue, hmode, hack.2 hne⟩

/-- A CEXC asserted in the sample leads, once cp_exception is taken, to exception mode. -/
theorem nextSample_cexc {s : State} (hp : s.sample.cexc ≠ []) (hu : s.cp.excPending = false) (a b : Word) :
    s.nextSample.cp.excPending = true ∧ s.nextSample.cp.queue = s.cp.queue ++ s.sample.cexc
    ∧ s.nextSample.cp.excMode = s.cp.excMode ∧ (raiseAt a b .cpException s.nextSample).cp.excMode = true := by
  obtain ⟨hpend, hqueue, hmode⟩ := onCp_asserts hp hu
  obtain ⟨_, hack⟩ := cpException_acknowledges a b s.nextSample
  have hne : s.nextSample.cp.queue ≠ [] := fun e => hp (List.append_eq_nil_iff.1 (hqueue.symm.trans e)).2
  exact ⟨hpend, hqueue, hmode, hack.2 hne⟩

/-- Settles O60: each list of unit instructions has one shape, whose guards meet the pending exception first. -/
theorem pendingExceptionsTrap : Obligations.PendingExceptionsTrap := by
  refine ⟨fun s rd rs1 rs2 o2 opf a d => fp_pending_traps rd rs1 rs2 o2 opf a d,
    fun s rd rs1 rs2 o2 opc a d => cp_pending_traps rd rs1 rs2 o2 opc a d, fun s => ?_⟩
  obtain ⟨hfp, hfpMode⟩ := fpException_acknowledges s.pc s.npc s
  obtain ⟨hcp, hcpMode⟩ := cpException_acknowledges s.pc s.npc s
  exact ⟨hfp, hfpMode, hcp, hcpMode, fun hp hu => nextSample_fexc hp hu _ _, fun hp hu => nextSample_cexc hp hu _ _,
    onFpu_pending s.sample, onCp_pending s.sample⟩

end Sys2Proof.Machine
end

section
/-! PROOF. Every step keeps the invariant Good (O6), and reset meets it (O7). What Good says of the code, of memory, of r[0]
and of the two units is kept by each shared operation; then one case for each family of instructions, and the step. -/

namespace Sys2Proof.Machine

/-! ### Word-aligned addresses (R32) -/

theorem wordAligned_iff (a : Word) : WordAligned a ↔ a.toNat % 4 = 0 := by
  simp [WordAligned, ← BitVec.toNat_inj]

theorem WordAligned.add {a b : Word} (ha : WordAligned a) (hb : WordAligned b) : WordAligned (a + b) := by
  rw [wordAligned_iff] at *
  rw [BitVec.toNat_add]
  omega

theorem WordAligned.next {a : Word} (h : WordAligned a) : WordAligned (a + 4#32) := h.add rfl

theorem wordAligned_scaled (a : BitVec 30) : WordAligned (a ++ 0#2) := by
  rw [WordAligned, BitVec.extractLsb'_append_eq_of_add_le (by decide)]
  rfl

theorem wordAligned_branchDisplacement (d : BitVec 22) : WordAligned (branchDisplacement d) := by
  rw [WordAligned, branchDisplacement]
  ext i hi
  have hlt : i < 24 := by omega
  have hlt' : i < 32 := by omega
  have hbit : (d ++ 0#2).getLsbD i = false := by rw [BitVec.getLsbD_append, if_pos hi, BitVec.getLsbD_zero]
  simpa [BitVec.getElem_signExtend, hlt, hlt'] using hbit

theorem wordAligned_of_aligned {a : Word} (h : aligned .word a = true) : WordAligned a := by
  rw [WordAligned]
  simpa only [aligned, beq_iff_eq] using h

/-! ### The parts of Good -/

/-- What Good asks of a unit: exception mode has entries in the queue, and entries come with an exception pending or with
that mode (R55; log 9, log 12, log 53). -/
def QueueFits (pending mode : Bool) (queue : List (Word × Word)) : Prop :=
  (mode = true → queue ≠ []) ∧ (pending = false → mode = false → queue = [])

def FpuFits (u : Fpu) : Prop := QueueFits u.excPending u.excMode u.queue

def CpFits (u : Coprocessor) : Prop := QueueFits u.excPending u.excMode u.queue

theorem good_iff (s : State) :
    s.Good ↔ WordAligned s.pc ∧ WordAligned s.npc ∧ Memory.wf s.mem = true ∧ s.regs[0] = 0#32 ∧ FpuFits s.fpu
      ∧ CpFits s.cp :=
  ⟨fun h => ⟨h.pc, h.npc, h.mem, h.zero, ⟨h.fpQueue, h.fpIdle⟩, ⟨h.cpQueue, h.cpIdle⟩⟩,
    fun ⟨hpc, hnpc, hmem, hzero, hfp, hcp⟩ => ⟨hpc, hnpc, hmem, hzero, hfp.1, hcp.1, hfp.2, hcp.2⟩⟩

theorem State.Good.fpuFits {s : State} (h : s.Good) : FpuFits s.fpu := ⟨h.fpQueue, h.fpIdle⟩

theorem State.Good.cpFits {s : State} (h : s.Good) : CpFits s.cp := ⟨h.cpQueue, h.cpIdle⟩

/-- A unit with an entry behind its queue and its exception pending fits. -/
theorem queueFits_recognises (mode : Bool) (queue : List (Word × Word)) {unfinished : List (Word × Word)}
    (h : unfinished ≠ []) : QueueFits true mode (queue ++ unfinished) :=
  ⟨fun _ e => h (List.append_eq_nil_iff.1 e).2, fun e => nomatch e⟩

/-- A unit that is acknowledged is in exception mode exactly if its queue has entries (R55). -/
theorem queueFits_acknowledged (queue : List (Word × Word)) : QueueFits false (!queue.isEmpty) queue := by
  simp [QueueFits]

/-- Exception mode with entries in the queue stays so whatever comes behind them (R55). -/
theorem queueFits_excMode (pending : Bool) {queue : List (Word × Word)} (h : queue ≠ []) (more : List (Word × Word)) :
    QueueFits pending true (queue ++ more) := ⟨fun _ e => h (List.append_eq_nil_iff.1 e).1, fun _ e => nomatch e⟩

/-- A store of the front entry ends exception mode with the last one (R55, R170). -/
theorem QueueFits.drop {pending mode : Bool} {queue : List (Word × Word)} (h : QueueFits pending mode queue) :
    QueueFits pending (mode && !queue.tail.isEmpty) queue.tail := by
  obtain ⟨_, hidle⟩ := h
  refine ⟨by simp, fun hp hm => ?_⟩
  cases hmode : mode
  · rw [hidle hp hmode]; rfl
  · simpa [hmode] using hm

/-- The fields that Good speaks of, and of the units only those. -/
def State.vital (s : State) :
    (Word × Word × List Host.Cell × Word) × (Bool × Bool × List (Word × Word)) × (Bool × Bool × List (Word × Word)) :=
  ((s.pc, s.npc, s.mem, s.regs[0]), (s.fpu.excPending, s.fpu.excMode, s.fpu.queue),
    (s.cp.excPending, s.cp.excMode, s.cp.queue))

/-- Good depends on the vital fields only. -/
theorem State.Good.of_vital {s t : State} (hs : s.Good) (h : t.vital = s.vital) : t.Good := by
  simp only [State.vital, Prod.mk.injEq] at h
  obtain ⟨⟨hpc, hnpc, hmem, hzero⟩, ⟨hfpend, hfmode, hfqueue⟩, hcpend, hcmode, hcqueue⟩ := h
  refine (good_iff t).2 ⟨hpc ▸ hs.pc, hnpc ▸ hs.npc, hmem ▸ hs.mem, hzero ▸ hs.zero, ?_, ?_⟩
  · rw [FpuFits, hfpend, hfmode, hfqueue]; exact hs.fpuFits
  · rw [CpFits, hcpend, hcmode, hcqueue]; exact hs.cpFits

/-- The meaning `k` leads from good states to good states. -/
def KeepsGood (k : State → Result) : Prop := ∀ s t, s.Good → k s = .next t → t.Good

/-! ### Updates of the state -/

theorem emit_good (e : Event) {s : State} (h : s.Good) : (s.emit e).Good := h.of_vital rfl

theorem drawn_good {s : State} (h : s.Good) : s.drawn.Good := h.of_vital rfl

theorem setFreg_good (r : Reg) (v : Word) {s : State} (h : s.Good) : (s.setFreg r v).Good := h.of_vital rfl

theorem setCreg_good (r : Reg) (v : Word) {s : State} (h : s.Good) : (s.setCreg r v).Good := h.of_vital rfl

theorem setRegIn_good (w : BitVec 3) (i : Reg) (v : Word) {s : State} (h : s.Good) : (s.setRegIn w i v).Good :=
  h.of_vital (by simp [State.vital, setRegIn_place_zero])

theorem setReg_good (i : Reg) (v : Word) {s : State} (h : s.Good) : (s.setReg i v).Good := setRegIn_good _ i v h

theorem advance_good {s : State} (h : s.Good) : s.advance.Good :=
  (good_iff _).2 ⟨h.npc, h.npc.next, h.mem, h.zero, h.fpuFits, h.cpFits⟩

theorem advanceCp_good {s : State} (h : s.Good) : s.advanceCp.Good := (advance_good h).of_vital rfl

/-- A transfer goes to an aligned target, in a delay slot to a free one that is aligned too (R257, D15). -/
theorem transfer_good {a : Word} (ha : WordAligned a) {s : State} (h : s.Good) : (s.transfer a).Good := by
  refine (good_iff _).2 ⟨h.npc, ?_, h.mem, h.zero, h.fpuFits, h.cpFits⟩
  rw [State.transfer_npc]
  split
  · exact wordAligned_scaled _
  · exact ha

theorem branch_good (always taken a : Bool) (d : BitVec 22) {s : State} (h : s.Good) :
    (s.branch always taken a d).Good := by
  have target : WordAligned (if taken then branchTarget d s else s.npc + 4#32) := by
    split
    · exact h.pc.add (wordAligned_branchDisplacement d)
    · exact h.npc.next
  exact (transfer_good target h).of_vital rfl

theorem storeBytes_good (asi : Asi) (a : Word) (z : AccessSize) (v : Word) {s : State} (h : s.Good) :
    (s.storeBytes asi a z v).Good :=
  (good_iff _).2 ⟨h.pc, h.npc, wf_writeCells _ h.mem, h.zero, h.fpuFits, h.cpFits⟩

theorem setFregs_good (value : Nat → Word) (k : Nat) (rs : List Reg) {s : State} (h : s.Good) :
    (setFregs value k rs s).Good := by
  induction rs generalizing k s with
  | nil => exact h
  | cons r rs ih => exact ih (k + 1) (setFreg_good r _ h)

theorem fpuRaises_good {s : State} (h : s.Good) : s.fpuRaises.Good :=
  (good_iff _).2 ⟨h.pc, h.npc, h.mem, h.zero, queueFits_recognises _ _ (List.cons_ne_nil _ _), h.cpFits⟩

theorem cpRaises_good {s : State} (h : s.Good) : s.cpRaises.Good :=
  (good_iff _).2 ⟨h.pc, h.npc, h.mem, h.zero, h.fpuFits, queueFits_recognises _ _ (List.cons_ne_nil _ _)⟩

theorem putReg_good (rd : Reg) (v : Word) {s : State} (h : s.Good) : (putReg rd v s).Good :=
  advance_good (setReg_good rd v h)

theorem putPair_good (rd : Reg) (hi lo : Word) {s : State} (h : s.Good) : (putPair rd hi lo s).Good :=
  advance_good (setReg_good _ lo (setReg_good _ hi h))

theorem putFreg_good (rd : Reg) (v : Word) {s : State} (h : s.Good) : (putFreg rd v s).Good :=
  advance_good (setFreg_good rd v h)

theorem putFregPair_good (rd : Reg) (hi lo : Word) {s : State} (h : s.Good) : (putFregPair rd hi lo s).Good :=
  advance_good (setFreg_good _ lo (setFreg_good _ hi h))

theorem putFsr_good (v : Word) {s : State} (h : s.Good) : (putFsr v s).Good := (advance_good h).of_vital rfl

theorem putCreg_good (rd : Reg) (v : Word) {s : State} (h : s.Good) : (putCreg rd v s).Good :=
  advanceCp_good (setCreg_good rd v h)

theorem putCregPair_good (rd : Reg) (hi lo : Word) {s : State} (h : s.Good) : (putCregPair rd hi lo s).Good :=
  advanceCp_good (setCreg_good _ lo (setCreg_good _ hi h))

theorem putCsr_good (v : Word) {s : State} (h : s.Good) : (putCsr v s).Good := (advance_good h).of_vital rfl

theorem dropFpQueue_good {s : State} (h : s.Good) : (dropFpQueue s).Good :=
  (good_iff _).2 ⟨h.npc, h.npc.next, h.mem, h.zero, h.fpuFits.drop, h.cpFits⟩

theorem dropCpQueue_good {s : State} (h : s.Good) : (dropCpQueue s).Good :=
  (good_iff _).2 ⟨h.npc, h.npc.next, h.mem, h.zero, h.fpuFits, h.cpFits.drop⟩

/-- In exception mode the FPU's answer is free but for its mode and queue, so the end keeps Good (R55, log 12). -/
theorem fpEnds_good {data : List Word} {ready : State → State} (hr : ∀ s, s.Good → (ready s).Good) {s : State}
    (h : s.Good) : (fpEnds data ready s).Good := by
  unfold fpEnds
  split
  · next hmode =>
    exact advance_good ((good_iff _).2
      ⟨h.pc, h.npc, h.mem, h.zero, queueFits_excMode _ (h.fpQueue hmode) _, h.cpFits⟩)
  · exact hr s h

theorem cpEnds_good {data : List Word} {ready : State → State} (hr : ∀ s, s.Good → (ready s).Good) {s : State}
    (h : s.Good) : (cpEnds data ready s).Good := by
  unfold cpEnds
  split
  · next hmode =>
    exact advanceCp_good ((good_iff _).2
      ⟨h.pc, h.npc, h.mem, h.zero, h.fpuFits, queueFits_excMode _ (h.cpQueue hmode) _⟩)
  · exact hr s h

/-! ### Traps -/

theorem fpuAfter_fits (t : Trap) {u : Fpu} (h : FpuFits u) : FpuFits (t.fpuAfter u) := by
  unfold Trap.fpuAfter
  split
  · exact queueFits_acknowledged _
  · exact h

theorem cpAfter_fits (t : Trap) {u : Coprocessor} (h : CpFits u) : CpFits (t.cpAfter u) := by
  unfold Trap.cpAfter
  split
  · exact queueFits_acknowledged _
  · exact h

/-- Trap entry goes to the aligned handler and leaves the place of r[0], whatever pair it saves. -/
theorem trapEntryAt_good (a b : Word) (t : Trap) {s : State} (h : s.Good) : (trapEntryAt a b t s).Good := by
  obtain ⟨hpc, hnpc⟩ := handler_aligned s.tba t.tt
  have saved := setRegIn_good (s.psr.cwp - 1#3) 18#5 b (setRegIn_good (s.psr.cwp - 1#3) 17#5 a h)
  refine (good_iff _).2 ⟨hpc, hnpc, ?_, saved.zero, fpuAfter_fits t h.fpuFits, cpAfter_fits t h.cpFits⟩
  rw [trapEntryAt_mem]
  exact h.mem

theorem raiseAt_good (a b : Word) (t : Trap) {s : State} (h : s.Good) : (raiseAt a b t s).Good := by
  rcases raiseAt_cases a b t s with ⟨_, e⟩ | ⟨_, e⟩ <;> rw [e]
  · exact trapEntryAt_good a b t h
  · exact (trapEntryAt_good a b t h).of_vital rfl

theorem raise_keepsGood (t : Trap) : KeepsGood (raise t) := fun _ _ h e => raise_next.1 e ▸ raiseAt_good _ _ t h

theorem next_keepsGood {f : State → State} (hf : ∀ s, s.Good → (f s).Good) : KeepsGood fun s => .next (f s) := by
  intro s t h e
  cases e
  exact hf s h

/-! ### Data accesses -/

theorem Accessed.good {s t : State} (h : Accessed s t) (hs : s.Good) : t.Good := by
  obtain ⟨e, n, b, _, rfl⟩ := h
  exact hs.of_vital rfl

theorem Stored.good {asi : Asi} {a v : Word} {z : AccessSize} {s t : State} (h : Stored asi a z v s t) (hs : s.Good) :
    t.Good := by
  obtain ⟨u, hu, rfl | rfl⟩ := h
  · exact storeBytes_good _ _ _ _ (hu.good hs)
  · exact hu.good hs

/-- RESET that cuts an access off leaves a good state (D21). -/
theorem cutOff_good {s : State} (h : s.Good) : s.popAnswer.enterReset.Good := h.of_vital rfl

/-- Either memory that a refused second word leaves is canonical (D11). -/
theorem secondWordRefused_keepsGood {before : List Host.Cell} (hb : Memory.wf before = true) :
    KeepsGood (secondWordRefused before) := by
  intro s t h e
  rw [secondWordRefused_next e]
  refine raiseAt_good _ _ _ ((good_iff _).2 ⟨h.pc, h.npc, ?_, h.zero, h.fpuFits, h.cpFits⟩)
  dsimp only
  split
  · exact h.mem
  · exact hb

theorem loadOne_keepsGood (z : AccessSize) (asi : Asi) (a : Word) {finish : Word → State → State}
    (hf : ∀ v s, s.Good → (finish v s).Good) : KeepsGood (loadOne z asi a finish) := by
  intro s t h e
  rcases loadOne_next e with ⟨v, u, hu, rfl⟩ | ⟨u, hu, hr⟩ | rfl
  · exact hf v u (hu.good h)
  · exact raise_keepsGood _ u t (hu.good h) hr
  · exact cutOff_good h

theorem loadTwo_keepsGood (asi : Asi) (a : Word) {onExc : State → Result} {finish : Word → Word → State → State}
    (he : KeepsGood onExc) (hf : ∀ hi lo s, s.Good → (finish hi lo s).Good) :
    KeepsGood (loadTwo asi a onExc finish) := by
  intro s t h e
  rcases loadTwo_next e with ⟨hi, lo, u, u', hu, hu', rfl⟩ | ⟨u, hu, hr⟩ | ⟨u, u', hu, hu', hr⟩ | rfl | ⟨u, hu, rfl⟩
  · exact hf hi lo u' (hu'.good (hu.good h))
  · exact he u t (hu.good h) hr
  · exact he u' t (hu'.good (hu.good h)) hr
  · exact cutOff_good h
  · exact cutOff_good (hu.good h)

theorem storeOne_keepsGood (z : AccessSize) (asi : Asi) (a v : Word) {finish : State → State}
    (hf : ∀ s, s.Good → (finish s).Good) : KeepsGood (storeOne z asi a v finish) := by
  intro s t h e
  rcases storeOne_next e with ⟨u, hu, rfl⟩ | ⟨u, hu, hr⟩ | rfl
  · exact hf u (hu.good h)
  · exact raise_keepsGood _ u t (hu.good h) hr
  · exact cutOff_good h

theorem storeTwo_keepsGood (asi : Asi) (a hi lo : Word) {finish : State → State}
    (hf : ∀ s, s.Good → (finish s).Good) : KeepsGood (storeTwo asi a hi lo finish) := by
  intro s t h e
  rcases storeTwo_next e with ⟨u, u', hu, hu', rfl⟩ | ⟨u, hu, hr⟩ | ⟨u, u', hu, hu', hr⟩ | rfl | ⟨u, hu, rfl⟩
  · exact hf u' (hu'.good (hu.good h))
  · exact raise_keepsGood _ u t (hu.good h) hr
  · exact secondWordRefused_keepsGood h.mem u' t (hu'.good (hu.good h)) hr
  · exact cutOff_good h
  · exact cutOff_good (hu.good h)

theorem loadStore_keepsGood (z : AccessSize) (asi : Asi) (a v : Word) {finish : Word → State → State}
    (hf : ∀ v s, s.Good → (finish v s).Good) : KeepsGood (loadStore z asi a v finish) := by
  intro s t h e
  rcases loadStore_next e with ⟨old, u, u', hu, hu', rfl⟩ | ⟨u, hu, hr⟩ | ⟨u, u', hu, hu', hr⟩ | rfl | ⟨u, hu, rfl⟩
  · exact hf old u' (hu'.good (hu.good h))
  · exact raise_keepsGood _ u t (hu.good h) hr
  · exact raise_keepsGood _ u' t (hu'.good (hu.good h)) hr
  · exact cutOff_good h
  · exact cutOff_good (hu.good h)

/-! ### Guards -/

theorem privileged_keepsGood {k : State → Result} (hk : KeepsGood k) : KeepsGood (privileged k) := by
  intro s t h e
  rcases privileged_next e with ⟨_, e⟩ | ⟨_, e⟩
  · exact hk s t h e
  · exact raise_keepsGood _ s t h e

/-- Behind the alignment check the address is known to be aligned. -/
theorem whenAligned_keepsGood {z : AccessSize} {a : Word} {k : State → Result}
    (hk : aligned z a = true → KeepsGood k) : KeepsGood (whenAligned z a k) := by
  intro s t h e
  rcases whenAligned_next e with ⟨ha, e⟩ | ⟨_, e⟩
  · exact hk ha s t h e
  · exact raise_keepsGood _ s t h e

theorem withFp_keepsGood {k : State → Result} (hk : KeepsGood k) : KeepsGood (withFp k) := by
  intro s t h e
  rcases withFp_next e with ⟨_, e⟩ | ⟨_, e⟩
  · exact hk s t h e
  · exact raise_keepsGood _ s t h e

theorem withCp_keepsGood {k : State → Result} (hk : KeepsGood k) : KeepsGood (withCp k) := by
  intro s t h e
  rcases withCp_next e with ⟨_, e⟩ | ⟨_, e⟩
  · exact hk s t h e
  · exact raise_keepsGood _ s t h e

theorem launchFp_keepsGood {k : State → Result} (hk : KeepsGood k) : KeepsGood (launchFp k) := by
  intro s t h e
  rcases launchFp_next e with ⟨_, e⟩ | ⟨_, e⟩
  · exact raise_keepsGood _ s t h e
  · exact hk _ t (emit_good _ h) e

theorem launchCp_keepsGood {k : State → Result} (hk : KeepsGood k) : KeepsGood (launchCp k) := by
  intro s t h e
  rcases launchCp_next e with ⟨_, e⟩ | ⟨_, e⟩
  · exact raise_keepsGood _ s t h e
  · exact hk _ t (emit_good _ h) e

theorem ite_keepsGood {c : State → Prop} [DecidablePred c] {k l : State → Result} (hk : KeepsGood k)
    (hl : KeepsGood l) : KeepsGood fun s => if c s then k s else l s := by
  intro s t h e
  dsimp only at e
  split at e
  · exact hk s t h e
  · exact hl s t h e

/-! ### The shared shapes of instructions -/

theorem writeReg_keepsGood (rd : Reg) (v : Word) : KeepsGood (writeReg rd v) :=
  next_keepsGood fun _ h => putReg_good rd v h

theorem writeRegCc_keepsGood (rd : Reg) (v : Word) (f : Icc) : KeepsGood (writeRegCc rd v f) :=
  next_keepsGood fun _ h => (putReg_good rd v h).of_vital rfl

theorem loadReg_keepsGood (z : AccessSize) (asi : Asi) (a : Word) {finish : Word → State → State}
    (hf : ∀ v s, s.Good → (finish v s).Good) : KeepsGood (loadReg z asi a finish) :=
  whenAligned_keepsGood fun _ => loadOne_keepsGood z asi a hf

theorem loadPair_keepsGood (asi : Asi) (a : Word) (rd : Reg) : KeepsGood (loadPair asi a rd) :=
  whenAligned_keepsGood fun _ => loadTwo_keepsGood asi a (raise_keepsGood _) fun hi lo _ => putPair_good rd hi lo

theorem storeReg_keepsGood (z : AccessSize) (asi : Asi) (a : Word) (rd : Reg) : KeepsGood (storeReg z asi a rd) :=
  fun s => whenAligned_keepsGood (fun _ => storeOne_keepsGood z asi a _ fun _ => advance_good) s

theorem storePair_keepsGood (asi : Asi) (a : Word) (rd : Reg) : KeepsGood (storePair asi a rd) :=
  fun s => whenAligned_keepsGood (fun _ => storeTwo_keepsGood asi a _ _ fun _ => advance_good) s

theorem loadStoreByte_keepsGood (asi : Asi) (a : Word) (rd : Reg) : KeepsGood (loadStoreByte asi a rd) :=
  loadStore_keepsGood _ asi a _ fun v _ => putReg_good rd v

theorem swapWord_keepsGood (asi : Asi) (a : Word) (rd : Reg) : KeepsGood (swapWord asi a rd) :=
  fun s => whenAligned_keepsGood (fun _ => loadStore_keepsGood _ asi a _ fun v _ => putReg_good rd v) s

theorem bicc_keepsGood (cond : BitVec 4) (a : Bool) (d : BitVec 22) : KeepsGood (bicc cond a d) :=
  next_keepsGood fun _ => branch_good _ _ a d

theorem fbfcc_keepsGood (cond : BitVec 4) (a : Bool) (d : BitVec 22) : KeepsGood (fbfcc cond a d) :=
  withFp_keepsGood (ite_keepsGood (raise_keepsGood _)
    (ite_keepsGood (raise_keepsGood _) (next_keepsGood fun _ => branch_good _ _ a d)))

theorem cbccc_keepsGood (cond : BitVec 4) (a : Bool) (d : BitVec 22) : KeepsGood (cbccc cond a d) :=
  withCp_keepsGood (ite_keepsGood (raise_keepsGood _) (ite_keepsGood
    (next_keepsGood fun s h =>
      (branch_good (cond == 0b1000#4) (Config.freeBool s.draws) a d (drawn_good h)).of_vital rfl)
    (next_keepsGood fun _ => branch_good _ _ a d)))

theorem ticc_keepsGood (cond : BitVec 4) (rs1 : Reg) (o2 : Operand2) : KeepsGood (ticc cond rs1 o2) :=
  ite_keepsGood (fun s => raise_keepsGood _ s) (next_keepsGood fun _ => advance_good)

/-- An FPop either leaves its exception pending or does an effect that keeps Good. -/
theorem fpop_keepsGood (opf : BitVec 9) (a b : List Word) {effect : State → State}
    (he : ∀ s, s.Good → (effect s).Good) : KeepsGood (fpop opf a b effect) := by
  refine withFp_keepsGood (launchFp_keepsGood (next_keepsGood fun _ => fpEnds_good fun s h => ?_))
  dsimp only
  split
  · exact advance_good (fpuRaises_good h)
  · exact (advance_good (he s h)).of_vital rfl

theorem fpCompute_keepsGood (opf : BitVec 9) (p : Precision) (rd : Reg) (a b : List Word) :
    KeepsGood (fpCompute opf p rd a b) := fun s => fpop_keepsGood opf a b (fun _ => setFregs_good _ 0 _) s

theorem fpCopy_keepsGood (opf : BitVec 9) (rd : Reg) (b : List Word) (v : Word) : KeepsGood (fpCopy opf rd b v) :=
  fpop_keepsGood opf [] b fun _ => setFreg_good rd v

theorem fpCompare_keepsGood (opf : BitVec 9) (p : Precision) (rs1 rs2 : Reg) : KeepsGood (fpCompare opf p rs1 rs2) :=
  fun s => fpop_keepsGood opf (s.fgroup p rs1) (s.fgroup p rs2)
    (effect := fun t => { t with fpu := { t.fpu with
      fcc := Config.fpRelation opf (s.fgroup p rs1) (s.fgroup p rs2) (fsrWord s.fpu) } })
    (fun _ h => h.of_vital rfl) s

theorem fpUnimplemented_keepsGood : KeepsGood fpUnimplemented :=
  withFp_keepsGood (launchFp_keepsGood (next_keepsGood fun _ => fpEnds_good fun _ h => advance_good (fpuRaises_good h)))

/-- Outside exception mode a CPop raises its exception or takes the effect the designer gives it. -/
theorem cpop_keepsGood (second : Bool) (rd rs1 : Reg) (opc : BitVec 9) (rs2 : Reg) :
    KeepsGood (cpop second rd rs1 opc rs2) := by
  refine withCp_keepsGood (launchCp_keepsGood (next_keepsGood fun s h => ?_))
  refine (cpEnds_good (data := []) (fun s h => ?_) h).of_vital rfl
  split
  · exact advanceCp_good (cpRaises_good h)
  · exact (advanceCp_good h).of_vital rfl

theorem fpMemory_keepsGood (z : AccessSize) (a : Word) {access : State → Result} (h : KeepsGood access) :
    KeepsGood (fpMemory z a access) := withFp_keepsGood (whenAligned_keepsGood fun _ => launchFp_keepsGood h)

theorem cpMemory_keepsGood (z : AccessSize) (a : Word) {access : State → Result} (h : KeepsGood access) :
    KeepsGood (cpMemory z a access) := withCp_keepsGood (whenAligned_keepsGood fun _ => launchCp_keepsGood h)

theorem fpPairRefused_keepsGood (rd : Reg) : KeepsGood (fpPairRefused rd) := fun _ t h =>
  raise_keepsGood .dataAccess _ t (setFreg_good _ _ (setFreg_good _ _ (drawn_good (drawn_good h))))

theorem cpPairRefused_keepsGood (rd : Reg) : KeepsGood (cpPairRefused rd) := fun _ t h =>
  raise_keepsGood .dataAccess _ t (setCreg_good _ _ (setCreg_good _ _ (drawn_good (drawn_good h))))

theorem storeFpQueue_keepsGood (a : Word) : KeepsGood (storeFpQueue a) := by
  intro s t h e
  unfold storeFpQueue at e
  split at e
  · cases e
  · exact storeTwo_keepsGood _ _ _ _ (fun _ => dropFpQueue_good) _ t (emit_good _ h) e

theorem storeCpQueue_keepsGood (a : Word) : KeepsGood (storeCpQueue a) := by
  intro s t h e
  unfold storeCpQueue at e
  split at e
  · cases e
  · exact storeTwo_keepsGood _ _ _ _ (fun _ => dropCpQueue_good) _ t (emit_good _ h) e

/-! ### Instructions with a shape of their own -/

theorem execMulscc_keepsGood (rd rs1 : Reg) (o2 : Operand2) : KeepsGood (execMulscc rd rs1 o2) :=
  fun _ t h => writeRegCc_keepsGood _ _ _ _ t (h.of_vital rfl)

theorem execTaddcctv_keepsGood (rd rs1 : Reg) (o2 : Operand2) : KeepsGood (execTaddcctv rd rs1 o2) :=
  ite_keepsGood (raise_keepsGood _) fun s => writeRegCc_keepsGood _ _ _ s

theorem execTsubcctv_keepsGood (rd rs1 : Reg) (o2 : Operand2) : KeepsGood (execTsubcctv rd rs1 o2) :=
  ite_keepsGood (raise_keepsGood _) fun s => writeRegCc_keepsGood _ _ _ s

theorem restartCheck_good (b : Bool) {s : State} (h : s.Good) : (s.restartCheck b).Good := (advance_good h).of_vital rfl

theorem execPfcheck_keepsGood (sig : BitVec 16) : KeepsGood (execPfcheck sig) :=
  ite_keepsGood (ite_keepsGood (raise_keepsGood _) (next_keepsGood fun _ => restartCheck_good true))
    (next_keepsGood fun _ => advance_good)

theorem execNop_keepsGood : KeepsGood execNop := next_keepsGood fun s h => by
  split
  · exact restartCheck_good false h
  · exact advance_good h

theorem execIflush_keepsGood (rs1 : Reg) (o2 : Operand2) : KeepsGood (execIflush rs1 o2) :=
  ite_keepsGood (next_keepsGood fun _ => advance_good) (raise_keepsGood _)

theorem execWry_keepsGood (rs1 : Reg) (o2 : Operand2) : KeepsGood (execWry rs1 o2) :=
  next_keepsGood fun _ h => (advance_good h).of_vital rfl

theorem execWrpsr_keepsGood (rs1 : Reg) (o2 : Operand2) : KeepsGood (execWrpsr rs1 o2) :=
  ite_keepsGood (raise_keepsGood _) fun s => privileged_keepsGood
    (next_keepsGood (f := fun u => { u with psr := PSR.ofWord (writeValue rs1 o2 s) }.advance)
      fun _ h => (advance_good h).of_vital rfl) s

theorem execWrwim_keepsGood (rs1 : Reg) (o2 : Operand2) : KeepsGood (execWrwim rs1 o2) :=
  privileged_keepsGood (next_keepsGood fun _ h => (advance_good h).of_vital rfl)

theorem execWrtbr_keepsGood (rs1 : Reg) (o2 : Operand2) : KeepsGood (execWrtbr rs1 o2) :=
  privileged_keepsGood (next_keepsGood fun _ h => (advance_good h).of_vital rfl)

theorem execCall_keepsGood (d : BitVec 30) : KeepsGood (execCall d) := next_keepsGood fun s h =>
  transfer_good (h.pc.add (wordAligned_scaled d)) (setReg_good 15#5 s.pc h)

/-- JMPL goes to its target only where the alignment check has let it. -/
theorem execJmpl_keepsGood (rd rs1 : Reg) (o2 : Operand2) : KeepsGood (execJmpl rd rs1 o2) :=
  fun s => whenAligned_keepsGood (fun ha => next_keepsGood
    (f := fun u => (u.setReg rd u.pc).transfer (effectiveAddress rs1 o2 s))
    fun u h => transfer_good (wordAligned_of_aligned ha) (setReg_good rd u.pc h)) s

theorem execRett_keepsGood (rs1 : Reg) (o2 : Operand2) : KeepsGood (execRett rs1 o2) := by
  intro s t h e
  simp only [execRett] at e
  split at e
  · exact raise_keepsGood _ s t h e
  split at e
  · exact raise_keepsGood _ s t h e
  split at e
  · exact raise_keepsGood _ s t h e
  split at e
  · exact raise_keepsGood _ s t h e
  next ha =>
    cases e
    exact (transfer_good (wordAligned_of_aligned (by simpa using ha)) h).of_vital rfl

theorem execSave_keepsGood (rd rs1 : Reg) (o2 : Operand2) : KeepsGood (execSave rd rs1 o2) :=
  ite_keepsGood (raise_keepsGood _) fun _ t h => writeReg_keepsGood _ _ _ t (h.of_vital rfl)

theorem execRestore_keepsGood (rd rs1 : Reg) (o2 : Operand2) : KeepsGood (execRestore rd rs1 o2) :=
  ite_keepsGood (raise_keepsGood _) fun _ t h => writeReg_keepsGood _ _ _ t (h.of_vital rfl)

/-! ### Every instruction -/

/-- Every instruction leads from good states to good states. -/
theorem exec_keepsGood (i : Instr) : KeepsGood (exec i) := by
  cases i with
  | call d => exact execCall_keepsGood d
  | unimp c => exact raise_keepsGood _
  | nop => exact execNop_keepsGood
  | pfcheck sig => exact execPfcheck_keepsGood sig
  | iflush rs1 o2 => exact execIflush_keepsGood rs1 o2
  | bn a d | be a d | ble a d | bl a d | bleu a d | bcs a d | bneg a d | bvs a d | ba a d | bne a d | bg a d | bge a d
  | bgu a d | bcc a d | bpos a d | bvc a d => exact bicc_keepsGood _ a d
  | fbn a d | fbne a d | fblg a d | fbul a d | fbl a d | fbug a d | fbg a d | fbu a d | fba a d | fbe a d | fbue a d
  | fbge a d | fbuge a d | fble a d | fbule a d | fbo a d => exact fbfcc_keepsGood _ a d
  | cbn a d | cb123 a d | cb12 a d | cb13 a d | cb1 a d | cb23 a d | cb2 a d | cb3 a d | cba a d | cb0 a d | cb03 a d
  | cb02 a d | cb023 a d | cb01 a d | cb013 a d | cb012 a d => exact cbccc_keepsGood _ a d
  | tn rs1 o2 => exact ticc_keepsGood 0b0000#4 rs1 o2
  | ta rs1 o2 => exact ticc_keepsGood 0b1000#4 rs1 o2
  | te rs1 o2 | tle rs1 o2 | tl rs1 o2 | tleu rs1 o2 | tcs rs1 o2 | tneg rs1 o2 | tvs rs1 o2 | tne rs1 o2 | tg rs1 o2
  | tge rs1 o2 | tgu rs1 o2 | tcc rs1 o2 | tpos rs1 o2 | tvc rs1 o2 => exact ticc_keepsGood _ rs1 o2
  | add rd rs1 o2 | addx rd rs1 o2 | sub rd rs1 o2 | subx rd rs1 o2 | and rd rs1 o2 | or rd rs1 o2 | xor rd rs1 o2
  | andn rd rs1 o2 | orn rd rs1 o2 | xnor rd rs1 o2 | sll rd rs1 o2 | srl rd rs1 o2 | sra rd rs1 o2 | sethi rd o2
  | rdy rd => exact fun s => writeReg_keepsGood rd _ s
  | addcc rd rs1 o2 | addxcc rd rs1 o2 | subcc rd rs1 o2 | subxcc rd rs1 o2 | andcc rd rs1 o2 | orcc rd rs1 o2
  | xorcc rd rs1 o2 | andncc rd rs1 o2 | orncc rd rs1 o2 | xnorcc rd rs1 o2 | taddcc rd rs1 o2 | tsubcc rd rs1 o2 =>
    exact fun s => writeRegCc_keepsGood rd _ _ s
  | taddcctv rd rs1 o2 => exact execTaddcctv_keepsGood rd rs1 o2
  | tsubcctv rd rs1 o2 => exact execTsubcctv_keepsGood rd rs1 o2
  | mulscc rd rs1 o2 => exact execMulscc_keepsGood rd rs1 o2
  | rdpsr rd | rdwim rd | rdtbr rd => exact fun s => privileged_keepsGood (writeReg_keepsGood rd _) s
  | wry rs1 o2 => exact execWry_keepsGood rs1 o2
  | wrpsr rs1 o2 => exact execWrpsr_keepsGood rs1 o2
  | wrwim rs1 o2 => exact execWrwim_keepsGood rs1 o2
  | wrtbr rs1 o2 => exact execWrtbr_keepsGood rs1 o2
  | jmpl rd rs1 o2 => exact execJmpl_keepsGood rd rs1 o2
  | rett rs1 o2 => exact execRett_keepsGood rs1 o2
  | save rd rs1 o2 => exact execSave_keepsGood rd rs1 o2
  | restore rd rs1 o2 => exact execRestore_keepsGood rd rs1 o2
  | fmovs rd rs2 | fnegs rd rs2 | fabss rd rs2 => exact fun s => fpCopy_keepsGood _ rd _ _ s
  | fsqrts rd rs2 | fsqrtd rd rs2 | fsqrtx rd rs2 | fitos rd rs2 | fdtos rd rs2 | fxtos rd rs2 | fitod rd rs2
  | fstod rd rs2 | fxtod rd rs2 | fitox rd rs2 | fstox rd rs2 | fdtox rd rs2 | fstoi rd rs2 | fdtoi rd rs2
  | fxtoi rd rs2 => exact fun s => fpCompute_keepsGood _ _ rd _ _ s
  | fadds rd rs1 rs2 | faddd rd rs1 rs2 | faddx rd rs1 rs2 | fsubs rd rs1 rs2 | fsubd rd rs1 rs2 | fsubx rd rs1 rs2
  | fmuls rd rs1 rs2 | fmuld rd rs1 rs2 | fmulx rd rs1 rs2 | fdivs rd rs1 rs2 | fdivd rd rs1 rs2 | fdivx rd rs1 rs2 =>
    exact fun s => fpCompute_keepsGood _ _ rd _ _ s
  | fcmps rs1 rs2 | fcmpd rs1 rs2 | fcmpx rs1 rs2 | fcmpes rs1 rs2 | fcmped rs1 rs2 | fcmpex rs1 rs2 =>
    exact fpCompare_keepsGood _ _ rs1 rs2
  | fpop1 rd rs1 opf rs2 | fpop2 rd rs1 opf rs2 => exact fpUnimplemented_keepsGood
  | cpop1 rd rs1 opc rs2 | cpop2 rd rs1 opc rs2 => exact cpop_keepsGood _ rd rs1 opc rs2
  | ldsb rd rs1 o2 | ldub rd rs1 o2 => exact fun s => loadReg_keepsGood .byte _ _ (fun _ _ => putReg_good rd _) s
  | ldsh rd rs1 o2 | lduh rd rs1 o2 | ld rd rs1 o2 =>
    exact fun s => loadReg_keepsGood _ _ _ (fun _ _ => putReg_good rd _) s
  | ldd rd rs1 o2 => exact fun s => loadPair_keepsGood _ _ rd s
  | stb rd rs1 o2 => exact fun s => storeReg_keepsGood .byte _ _ rd s
  | sth rd rs1 o2 | st rd rs1 o2 => exact fun s => storeReg_keepsGood _ _ _ rd s
  | std rd rs1 o2 => exact fun s => storePair_keepsGood _ _ rd s
  | ldstub rd rs1 o2 => exact fun s => loadStoreByte_keepsGood _ _ rd s
  | swap rd rs1 o2 => exact fun s => swapWord_keepsGood _ _ rd s
  | ldsba rd rs1 rs2 asi | ldsha rd rs1 rs2 asi | lduba rd rs1 rs2 asi | lduha rd rs1 rs2 asi | lda rd rs1 rs2 asi =>
    exact fun s => privileged_keepsGood (loadReg_keepsGood _ asi _ fun _ _ => putReg_good rd _) s
  | ldda rd rs1 rs2 asi => exact fun s => privileged_keepsGood (loadPair_keepsGood asi _ rd) s
  | stba rd rs1 rs2 asi | stha rd rs1 rs2 asi | sta rd rs1 rs2 asi =>
    exact fun s => privileged_keepsGood (storeReg_keepsGood _ asi _ rd) s
  | stda rd rs1 rs2 asi => exact fun s => privileged_keepsGood (storePair_keepsGood asi _ rd) s
  | ldstuba rd rs1 rs2 asi => exact fun s => privileged_keepsGood (loadStoreByte_keepsGood asi _ rd) s
  | swapa rd rs1 rs2 asi => exact fun s => privileged_keepsGood (swapWord_keepsGood asi _ rd) s
  | ldf rd rs1 o2 =>
    exact fun s => fpMemory_keepsGood _ _
      (loadOne_keepsGood _ _ _ fun v _ => fpEnds_good fun _ => putFreg_good rd v) s
  | ldfsr rs1 o2 =>
    exact fun s => fpMemory_keepsGood _ _ (loadOne_keepsGood _ _ _ fun v _ => fpEnds_good fun _ => putFsr_good v) s
  | lddf rd rs1 o2 =>
    exact fun s => fpMemory_keepsGood _ _ (loadTwo_keepsGood _ _ (fpPairRefused_keepsGood rd)
      fun hi lo _ => fpEnds_good fun _ => putFregPair_good rd hi lo) s
  | stf rd rs1 o2 | stfsr rs1 o2 =>
    exact fun s => fpMemory_keepsGood _ _ (storeOne_keepsGood _ _ _ _ fun _ => fpEnds_good fun _ => advance_good) s
  | stdf rd rs1 o2 =>
    exact fun s => fpMemory_keepsGood _ _ (storeTwo_keepsGood _ _ _ _ fun _ => fpEnds_good fun _ => advance_good) s
  | stdfq rs1 o2 =>
    exact fun s => privileged_keepsGood
      (withFp_keepsGood (whenAligned_keepsGood fun _ => storeFpQueue_keepsGood _)) s
  | ldc rd rs1 o2 =>
    exact fun s => cpMemory_keepsGood _ _
      (loadOne_keepsGood _ _ _ fun v _ => cpEnds_good fun _ => putCreg_good rd v) s
  | ldcsr rs1 o2 =>
    exact fun s => cpMemory_keepsGood _ _ (loadOne_keepsGood _ _ _ fun v _ => cpEnds_good fun _ => putCsr_good v) s
  | lddc rd rs1 o2 =>
    exact fun s => cpMemory_keepsGood _ _ (loadTwo_keepsGood _ _ (cpPairRefused_keepsGood rd)
      fun hi lo _ => cpEnds_good fun _ => putCregPair_good rd hi lo) s
  | stc rd rs1 o2 | stcsr rs1 o2 =>
    exact fun s => cpMemory_keepsGood _ _ (storeOne_keepsGood _ _ _ _ fun _ => cpEnds_good fun _ => advanceCp_good) s
  | stdc rd rs1 o2 =>
    exact fun s => cpMemory_keepsGood _ _ (storeTwo_keepsGood _ _ _ _ fun _ => cpEnds_good fun _ => advanceCp_good) s
  | stdcq rs1 o2 =>
    exact fun s => privileged_keepsGood
      (withCp_keepsGood (whenAligned_keepsGood fun _ => storeCpQueue_keepsGood _)) s

/-! ### The step -/

theorem raiseError_keepsGood (e : HwError) : KeepsGood (raiseError e) := by
  intro s t h r
  cases e with
  | imprecise => cases r; exact raiseAt_good _ _ _ (drawn_good (drawn_good h))
  | nonRestartablePrecise | registerFile | restartableLate | restartablePrecise | programFlow =>
    exact raise_keepsGood _ s t h r

theorem afterFetch_good {s : State} (h : s.Good) : s.afterFetch.Good :=
  (good_iff _).2 ⟨h.pc, h.npc, wf_writeCells _ h.mem, h.zero, h.fpuFits, h.cpFits⟩

/-- However a fetch ends, it leaves a good state. -/
theorem busFetch_good {s : State} (h : s.Good) : (busFetch s).state.Good := by
  rcases busFetch_cases s with ⟨w, n, e⟩ | e <;> rw [e]
  · exact (afterFetch_good h).of_vital rfl
  · exact afterFetch_good h

theorem skip_good (w : Word) {s : State} (h : s.Good) : (s.skip w).Good := (advance_good h).of_vital rfl

theorem annulledStep_keepsGood : KeepsGood annulledStep := by
  intro s t h e
  have fetched := busFetch_good h
  unfold annulledStep at e
  cases hf : busFetch s with
  | ok w u => rw [hf] at e fetched; cases e; exact skip_good w fetched
  | exception u => rw [hf] at e fetched; cases e; exact skip_good _ (drawn_good fetched)
  | reset u => rw [hf] at e fetched; cases e; exact fetched.of_vital rfl

theorem runWord_keepsGood {run : Instr → State → Result} (hrun : ∀ i, KeepsGood (run i)) (w : Word) :
    KeepsGood (runWord run w) := by
  intro s t h e
  unfold runWord at e
  split at e
  · exact hrun _ { s with ir := w } t (h.of_vital rfl) e
  · exact raise_keepsGood _ { s with ir := w } t (h.of_vital rfl) e

/-- A late error in the place of a trap takes only memory and registers of the units from the state after. -/
theorem supersede_good {before after : State} (hb : before.Good) (ha : after.Good) : (supersede before after).Good :=
  (good_iff _).2 ⟨hb.pc, hb.npc, ha.mem, hb.zero, hb.fpuFits, hb.cpFits⟩

theorem lateError_good {reported : Bool} {before t : State} {r : Result} (hb : before.Good)
    (hr : ∀ u, r = .next u → u.Good) (h : lateError reported before r = .next t) : t.Good := by
  obtain ⟨u, e, rfl | ⟨_, rfl⟩ | ⟨_, rfl⟩⟩ := lateError_next h
  · exact hr _ e
  · exact raiseAt_good _ _ _ (supersede_good hb (hr u e))
  · exact raiseAt_good _ _ _ (hr u e)

/-- A hardware error, a refused fetch and the instruction at PC each keep Good. -/
theorem instructionStep_keepsGood {run : Instr → State → Result} (hrun : ∀ i, KeepsGood (run i)) :
    KeepsGood (instructionStep run) := by
  intro s t h e
  have fetched := busFetch_good h
  unfold instructionStep at e
  cases hf : busFetch s with
  | ok w u =>
    rw [hf] at e fetched
    have late (reported : Bool) (hl : lateError reported { u with ir := w } (runWord run w u) = .next t) : t.Good :=
      lateError_good (before := { u with ir := w }) (fetched.of_vital rfl)
        (fun v => runWord_keepsGood hrun w u v fetched) hl
    dsimp only at e
    split at e
    · exact late true e
    · exact raiseError_keepsGood _ u t fetched e
    · exact late false e
  | exception u =>
    rw [hf] at e fetched
    dsimp only at e
    split at e
    · cases e
      exact raiseAt_good _ _ _ fetched
    · exact raiseError_keepsGood _ u t fetched e
    · exact raise_keepsGood _ u t fetched e
  | reset u => rw [hf] at e fetched; cases e; exact fetched.of_vital rfl

theorem executeStep_keepsGood {run : Instr → State → Result} (hrun : ∀ i, KeepsGood (run i)) :
    KeepsGood (executeStep run) := by
  intro s t h e
  unfold executeStep at e
  split at e
  · cases e
    exact trapEntryAt_good _ _ _ h
  · split at e
    · exact annulledStep_keepsGood s t h e
    · exact instructionStep_keepsGood hrun s t h e

theorem leaveReset_good {s : State} (h : s.Good) : s.leaveReset.Good :=
  (good_iff _).2 ⟨(wordAligned_iff 0#32).2 rfl, (wordAligned_iff 4#32).2 rfl, h.mem, h.zero, h.fpuFits, h.cpFits⟩

theorem sampledStep_keepsGood {run : Instr → State → Result} (hrun : ∀ i, KeepsGood (run i)) :
    KeepsGood (sampledStep run) := by
  intro s t h e
  unfold sampledStep at e
  split at e
  · cases e
  split at e
  · cases e; exact h.of_vital rfl
  split at e
  · cases e; exact h.of_vital rfl
  split at e
  · cases e; exact h
  split at e
  · cases e; exact leaveReset_good h
  · cases e; exact h
  · exact executeStep_keepsGood hrun s.settleHwerror t (h.of_vital rfl) e

/-- What the FPU's own lines do to it fits: an exception comes with unfinished instructions (log 53). -/
theorem onFpu_fits (p : Pins) {u : Fpu} (h : FpuFits u) : FpuFits (p.onFpu u) := by
  rcases onFpu_cases p u with ⟨_, e⟩ | ⟨_, hp, _, _, e⟩ <;> rw [e]
  · exact h
  · exact queueFits_recognises _ _ hp

theorem onCp_fits (p : Pins) {u : Coprocessor} (h : CpFits u) : CpFits (p.onCp u) := by
  rcases onCp_cases p u with ⟨_, e⟩ | ⟨_, hp, _, _, e⟩ <;> rw [e]
  · exact h
  · exact queueFits_recognises _ _ hp

theorem nextSample_good {s : State} (h : s.Good) : s.nextSample.Good :=
  (good_iff _).2 ⟨h.pc, h.npc, wf_writeCells _ h.mem, h.zero, onFpu_fits _ h.fpuFits, onCp_fits _ h.cpFits⟩

/-- Settles O6: taking the sample keeps Good, and so does everything a step can do after it. -/
theorem stepKeepsGood : Obligations.StepKeepsGood := fun s t h e =>
  sampledStep_keepsGood exec_keepsGood s.nextSample t (nextSample_good h) e

/-- Settles O7. -/
theorem resetIsGood : Obligations.ResetIsGood :=
  ⟨rfl, rfl, wf_nil, rfl, nofun, nofun, fun _ _ => rfl, fun _ _ => rfl⟩

end Sys2Proof.Machine
end

section
/-! PROOF. Agreement of states, and the ends of the integer instructions in its terms: plain results (O22), the windows (O31,
O32, O33), loads (O34), CALL and JMPL (O47), and the control registers (O51, O53). -/

namespace Sys2Proof.Machine

/-! ### Agreement -/

/-- `s` with the model's own record of the environment that `r` has. -/
def State.withRecord (s r : State) : State :=
  { s with
    wrote := r.wrote, recent1 := r.recent1, recent2 := r.recent2, badLoad := r.badLoad, pins := r.pins, env := r.env
    events := r.events, draws := r.draws }

/-- States that differ in the record only agree. -/
theorem Agree.of_record {t u : State} (h : t = u.withRecord t) : Agree t u := by
  rw [h]
  exact ⟨rfl, rfl, rfl, rfl, rfl, rfl, rfl, rfl, rfl, rfl, rfl, fun _ => rfl, rfl, rfl, rfl, rfl, rfl, rfl, rfl, rfl,
    fun _ => rfl⟩

/-- The state with its record put to fixed values. -/
def State.visible (s : State) : State :=
  { s with
    wrote := [], recent1 := [], recent2 := [], badLoad := false, pins := Pins.quiet, env := [], events := [], draws := 0 }

@[simp] theorem emit_visible (s : State) (e : Event) : (s.emit e).visible = s.visible := rfl
@[simp] theorem popAnswer_visible (s : State) : s.popAnswer.visible = s.visible := rfl

theorem withRecord_of_visible {u s : State} (h : u.visible = s.visible) : s.withRecord u = u := by
  have e : s.visible.withRecord u = u.visible.withRecord u := by rw [h]
  exact e

theorem Agree.of_visible {t u : State} (h : t.visible = u.visible) : Agree t u :=
  .of_record (withRecord_of_visible h).symm

theorem regs_of_visible {t u : State} (h : t.visible = u.visible) : t.regs = u.regs :=
  show t.visible.regs = u.visible.regs by rw [h]

theorem psr_of_visible {t u : State} (h : t.visible = u.visible) : t.psr = u.psr :=
  show t.visible.psr = u.visible.psr by rw [h]

/-! ### Register writes and the ends of an instruction -/

theorem setRegIn_eq (s : State) (w : BitVec 3) (i : Reg) (v : Word) :
    s.setRegIn w i v = { s with regs := (s.setRegIn w i v).regs } := by
  unfold State.setRegIn
  split <;> rfl

theorem setReg_eq (s : State) (i : Reg) (v : Word) : s.setReg i v = { s with regs := (s.setReg i v).regs } :=
  setRegIn_eq s _ i v

/-- The register file after a register write, place by place. -/
theorem setRegIn_regs (s : State) (w : BitVec 3) (i : Reg) (v : Word) (j : Fin 136) :
    (s.setRegIn w i v).regs[j.val] = if i ≠ 0#5 ∧ j = regIndex w i then v else s.regs[j.val] := by
  by_cases hj : j = regIndex w i
  · by_cases hi : i = 0#5
    · simp [hi, setRegIn_zero]
    · simp [State.setRegIn, hi, hj]
  · rw [setRegIn_regs_other s w i v j hj, if_neg fun h => hj h.2]

theorem setReg_writesReg (s : State) (i : Reg) (v : Word) : WritesReg (s.setReg i v).regs s s.psr.cwp i v :=
  setRegIn_regs s _ i v

/-- An instruction that writes r[rd] in a state like `s` but for the PSR, Y and the record ends with that. -/
theorem putReg_endsWith {s u : State} {psr : PSR} {y : Word} (rd : Reg) (v : Word)
    (h : u.visible = { s with psr := psr, y := y }.visible) : EndsWith (.next (putReg rd v u)) s rd v psr y := by
  have hregs : u.regs = { s with psr := psr, y := y }.regs := regs_of_visible h
  have hpsr : u.psr = psr := psr_of_visible h
  have hend : (putReg rd v u).visible = { u.visible.ended with regs := (putReg rd v u).regs } := by
    rw [putReg, setReg_eq]; rfl
  refine ⟨_, rfl, fun j => ?_, Agree.of_visible ?_⟩
  · have hw := setReg_writesReg u rd v j
    rwa [hregs, hpsr] at hw
  · rw [hend, h]; rfl

theorem writeReg_endsWith (rd : Reg) (v : Word) (s : State) : EndsWith (writeReg rd v s) s rd v s.psr s.y :=
  putReg_endsWith rd v rfl

/-- Settles O22. -/
theorem plainResults : Obligations.PlainResults := fun s rd _ _ =>
  have ends (v : Word) := writeReg_endsWith rd v s
  ⟨ends _, ends _, ends _, ends _, ends _, ends _, ends _, ends _, ends _, ends _⟩

/-! ### Windows (R22, R23) -/

/-- The place of a register, as R22 gives it: the globals first, then 16 registers for each window. -/
theorem regIndex_val (w : BitVec 3) (i : Reg) :
    (regIndex w i).val = if i.toNat < 8 then i.toNat else 8 + (16 * w.toNat + (i.toNat - 8)) % 128 := by
  unfold regIndex
  split <;> simp [*]

/-- Which places are the same: the window numbers count modulo 8, and a window's 24 registers reach 8 into the next. -/
theorem regIndex_eq_iff (w w' : BitVec 3) (i j : Reg) : regIndex w i = regIndex w' j ↔
    (i = j ∧ i.toNat < 8)
    ∨ (i = j ∧ w = w')
    ∨ (24 ≤ i.toNat ∧ i.toNat = j.toNat + 16 ∧ w' = w + 1#3)
    ∨ (24 ≤ j.toNat ∧ j.toNat = i.toNat + 16 ∧ w = w' + 1#3) := by
  have hw := w.isLt
  have hw' := w'.isLt
  have hi := i.isLt
  have hj := j.isLt
  simp only [Fin.ext_iff, regIndex_val, ← BitVec.toNat_inj, BitVec.toNat_add, BitVec.toNat_ofNat]
  split <;> split <;> omega

/-- Every place is a global or one of r[8] to r[23] of some window. -/
theorem exists_regIndex (p : Fin 136) : ∃ (w : BitVec 3) (i : Reg), regIndex w i = p := by
  have hp := p.isLt
  by_cases h : p.val < 8
  · refine ⟨0#3, BitVec.ofNat 5 p.val, Fin.ext ?_⟩
    rw [regIndex_val, BitVec.toNat_ofNat, if_pos (by omega)]
    omega
  · refine ⟨BitVec.ofNat 3 ((p.val - 8) / 16), BitVec.ofNat 5 (8 + (p.val - 8) % 16), Fin.ext ?_⟩
    rw [regIndex_val, BitVec.toNat_ofNat, BitVec.toNat_ofNat, if_neg (by omega)]
    omega

/-- Settles O31. -/
theorem windowsOverlap : Obligations.WindowsOverlap :=
  ⟨regIndex_eq_iff, exists_regIndex, fun s w v => ⟨regIn_zero s w, setRegIn_zero s w v⟩⟩

/-! ### SAVE and RESTORE (R268, R269) -/

/-- `s` seen from window `w`. -/
def State.inWindow (s : State) (w : BitVec 3) : State := { s with psr := { s.psr with cwp := w } }

theorem exec_save_valid {s : State} (h : s.wim.getLsbD (s.psr.cwp - 1#3).toNat = false) (rd rs1 : Reg) (o2 : Operand2) :
    exec (.save rd rs1 o2) s = .next (putReg rd (effectiveAddress rs1 o2 s) (s.inWindow (s.psr.cwp - 1#3))) :=
  if_neg (by simp only [State.windowInvalid, h, Bool.false_eq_true, not_false_eq_true])

theorem exec_save_invalid {s : State} (h : s.wim.getLsbD (s.psr.cwp - 1#3).toNat = true) (rd rs1 : Reg) (o2 : Operand2) :
    exec (.save rd rs1 o2) s = raise .windowOverflow s := if_pos h

theorem exec_restore_valid {s : State} (h : s.wim.getLsbD (s.psr.cwp + 1#3).toNat = false) (rd rs1 : Reg)
    (o2 : Operand2) :
    exec (.restore rd rs1 o2) s = .next (putReg rd (effectiveAddress rs1 o2 s) (s.inWindow (s.psr.cwp + 1#3))) :=
  if_neg (by simp only [State.windowInvalid, h, Bool.false_eq_true, not_false_eq_true])

theorem exec_restore_invalid {s : State} (h : s.wim.getLsbD (s.psr.cwp + 1#3).toNat = true) (rd rs1 : Reg)
    (o2 : Operand2) : exec (.restore rd rs1 o2) s = raise .windowUnderflow s := if_pos h

/-- Settles O32: behind the check of WIM the sum of the old window is written in the new one. -/
theorem saveAndRestore : Obligations.SaveAndRestore := by
  intro s rd rs1 o2
  refine ⟨fun h => ?_, fun h => exec_save_invalid h rd rs1 o2, fun h => ?_, fun h => exec_restore_invalid h rd rs1 o2⟩
  · rw [exec_save_valid h]
    exact putReg_endsWith rd _ rfl
  · rw [exec_restore_valid h]
    exact putReg_endsWith rd _ rfl

theorem in_ne_zero (k : BitVec 3) : 24#5 + k.setWidth 5 ≠ 0#5 := by revert k; decide

theorem out_ne_zero (k : BitVec 3) : 8#5 + k.setWidth 5 ≠ 0#5 := by revert k; decide

/-- The ins of a window read as the outs of the window above it (R23). -/
theorem regIn_in_eq_out (s : State) (w k : BitVec 3) :
    s.regIn w (24#5 + k.setWidth 5) = s.regIn (w + 1#3) (8#5 + k.setWidth 5) := by
  rw [State.regIn, State.regIn, if_neg (in_ne_zero k), if_neg (out_ne_zero k)]
  simp only [regIndex_overlap]

/-- A register other than the destination reads as before the write, in the window the instruction ends in. -/
theorem putReg_reg_other (s : State) (w : BitVec 3) (v : Word) {rd i : Reg} (h : rd ≠ i) :
    (putReg rd v (s.inWindow w)).reg i = s.regIn w i := by
  have hother := reg_setReg (s.inWindow w) rd i v
  rwa [if_neg fun hi => h hi.1.symm] at hother

theorem putReg_zero_regs (v : Word) (s : State) : (putReg 0#5 v s).regs = s.regs := by
  rw [putReg, setReg_zero, State.advance_regs]

theorem putReg_psr (rd : Reg) (v : Word) (s : State) : (putReg rd v s).psr = s.psr := by simp [putReg]

/-- SAVE to r[0] and RESTORE to r[0] change neither the register file nor the PSR. -/
theorem restore_undoes_save {s : State} (h : s.wim.getLsbD (s.psr.cwp - 1#3).toNat = false)
    (h' : s.wim.getLsbD s.psr.cwp.toNat = false) :
    ∃ t u, exec (.save 0#5 0#5 (.reg 0#5)) s = .next t ∧ exec (.restore 0#5 0#5 (.reg 0#5)) t = .next u
      ∧ u.regs = s.regs ∧ u.psr = s.psr := by
  let t := putReg 0#5 (effectiveAddress 0#5 (.reg 0#5) s) (s.inWindow (s.psr.cwp - 1#3))
  have hregs : t.regs = s.regs := putReg_zero_regs (effectiveAddress 0#5 (.reg 0#5) s) (s.inWindow (s.psr.cwp - 1#3))
  have hpsr : t.psr = { s.psr with cwp := s.psr.cwp - 1#3 } := putReg_psr _ _ _
  have hback : t.psr.cwp + 1#3 = s.psr.cwp := by rw [hpsr]; exact BitVec.sub_add_cancel _ _
  have hwim : t.wim.getLsbD (t.psr.cwp + 1#3).toNat = false := by
    rw [hback]
    simpa [t, putReg, State.inWindow] using h'
  refine ⟨t, _, exec_save_valid h _ _ _, exec_restore_valid hwim _ _ _, ?_, ?_⟩
  · rw [putReg_zero_regs]; exact hregs
  · rw [putReg_psr, hback, State.inWindow, hpsr]

/-- Settles O33. -/
theorem windowsPassArguments : Obligations.WindowsPassArguments := by
  refine ⟨fun s rd rs1 o2 k h hrd => ⟨_, exec_save_valid h rd rs1 o2, ?_⟩,
    fun s rd rs1 o2 k h hrd => ⟨_, exec_restore_valid h rd rs1 o2, ?_⟩, fun _ h h' => restore_undoes_save h h'⟩
  · rw [putReg_reg_other _ _ _ hrd, regIn_in_eq_out, BitVec.sub_add_cancel, State.reg]
  · rw [putReg_reg_other _ _ _ hrd, ← regIn_in_eq_out, State.reg]

/-! ### Loads from storage (R122) -/

theorem nextAnswer_of_undisturbed {s : State} (h : s.undisturbed) : s.nextAnswer = .ready := by
  unfold State.nextAnswer
  cases hd : s.pins.dataAnswers with
  | nil => rfl
  | cons x xs => exact h.1 x (by simp [hd])

/-- The rest of an undisturbed instruction is undisturbed. -/
theorem undisturbed_popAnswer {s : State} (h : s.undisturbed) : s.popAnswer.undisturbed :=
  ⟨fun x hx => h.1 x (List.mem_of_mem_tail hx), h.2⟩

theorem loadOne_storage {z : AccessSize} {asi : Asi} {a : Word} {s : State} (hu : s.undisturbed) (hk : s.readable asi a)
    (finish : Word → State → State) :
    loadOne z asi a finish s
      = .next (finish (readValue s.platform s.mem asi a z) (s.popAnswer.emit (readCycle asi a z false false))) := by
  rw [loadOne, busRead_storage (nextAnswer_of_undisturbed hu) hu.2 hk, andThen_ok]

theorem loadTwo_storage {asi : Asi} {a : Word} {s : State} (hu : s.undisturbed) (hk : s.readable asi a)
    (hk' : s.readable asi (a + 4#32)) (onExc : State → Result) (finish : Word → Word → State → State) :
    loadTwo asi a onExc finish s
      = .next (finish (readValue s.platform s.mem asi a .double) (readValue s.platform s.mem asi (a + 4#32) .double)
          ((s.popAnswer.emit (readCycle asi a .double true false)).popAnswer.emit
            (readCycle asi (a + 4#32) .double true false))) := by
  have hnext : (s.popAnswer.emit (readCycle asi a .double true false)).nextAnswer = .ready :=
    nextAnswer_of_undisturbed (undisturbed_popAnswer hu)
  rw [loadTwo, busRead_storage (nextAnswer_of_undisturbed hu) hu.2 hk, andThen_ok, busRead_storage hnext hu.2 hk',
    andThen_ok]
  rfl

theorem readValue_double (s : State) (asi : Asi) (a : Word) :
    readValue s.platform s.mem asi a .double = s.wordAt asi a := rfl

theorem sextByte_setWidth (b : Byte) : sextByte (b.setWidth 32) = b.signExtend 32 := by
  have hb : (b.setWidth 32).extractLsb' 0 8 = b := by ext i hi; simp [hi]; omega
  rw [sextByte, hb]

theorem sextHalf_setWidth (h : BitVec 16) : sextHalf (h.setWidth 32) = h.signExtend 32 := by
  have hh : (h.setWidth 32).extractLsb' 0 16 = h := by ext i hi; simp [hi]; omega
  rw [sextHalf, hh]

/-- An integer load that storage answers writes the value `f` makes of what it reads. -/
theorem loadReg_endsWith {z : AccessSize} {asi : Asi} {a : Word} {s : State} (hu : s.undisturbed)
    (hk : s.readable asi a) (ha : aligned z a = true) (rd : Reg) (f : Word → Word) :
    EndsWith (loadReg z asi a (fun v => putReg rd (f v)) s) s rd (f (readValue s.platform s.mem asi a z)) s.psr s.y := by
  rw [loadReg, whenAligned_of_aligned ha, loadOne_storage hu hk]
  exact putReg_endsWith rd _ rfl

theorem evenReg_ne_oddReg (rd : Reg) : evenReg rd ≠ oddReg rd := by revert rd; decide

theorem oddReg_ne_zero (rd : Reg) : oddReg rd ≠ 0#5 := by revert rd; decide

/-- A doubleword load in a state like `s` but for the record writes the pair. -/
theorem putPair_endsWithPair {s u : State} (rd : Reg) (hi lo : Word) (h : u.visible = s.visible) :
    EndsWithPair (.next (putPair rd hi lo u)) s rd hi lo := by
  have hregs : u.regs = s.regs := regs_of_visible h
  have hpsr : u.psr = s.psr := psr_of_visible h
  have hend : (putPair rd hi lo u).visible = { u.visible.ended with regs := (putPair rd hi lo u).regs } := by
    rw [putPair, setReg_eq _ (oddReg rd), setReg_eq u]; rfl
  refine ⟨_, rfl, fun j => ?_, Agree.of_visible ?_⟩
  · have heven := setReg_writesReg u (evenReg rd) hi j
    have hodd := setReg_writesReg (u.setReg (evenReg rd) hi) (oddReg rd) lo j
    rw [heven, State.setReg_psr, hregs, hpsr] at hodd
    simp only [ne_eq, oddReg_ne_zero, not_false_eq_true, true_and] at hodd
    exact hodd
  · rw [hend, h]; rfl

/-- Settles O34: the six loads are one load of a byte, halfword, word or pair. -/
theorem integerLoads : Obligations.IntegerLoads := by
  intro s rd rs1 o2 hu hk ea
  refine ⟨?_, loadReg_endsWith hu hk (z := .byte) rfl rd id, fun ha => ?_, fun ha => ?_, fun ha => ?_, fun ha hk' => ?_⟩
  · rw [← sextByte_setWidth]
    exact loadReg_endsWith hu hk (z := .byte) rfl rd sextByte
  · rw [← sextHalf_setWidth]
    exact loadReg_endsWith hu hk (z := .half) (beq_iff_eq.2 ha) rd sextHalf
  · exact loadReg_endsWith hu hk (z := .half) (beq_iff_eq.2 ha) rd id
  · exact loadReg_endsWith hu hk (z := .word) (aligned_word_of ha) rd id
  · have hload : exec (.ldd rd rs1 o2) s = loadPair s.dataAsi ea rd s := rfl
    have hends : loadTwo s.dataAsi ea (raise .dataAccess) (putPair rd) s = _ := loadTwo_storage hu hk hk' _ _
    rw [hload, loadPair, whenAligned_of_aligned (aligned_double_of ha), hends, readValue_double, readValue_double]
    exact putPair_endsWithPair rd _ _ (by simp)

/-! ### CALL and JMPL (R259, R261) -/

/-- A transfer that writes its own address to r[rd], outside the delay slot of a conditional branch. -/
theorem link_transfer {s : State} (h : s.condDelay = false) (rd : Reg) (target : Word) :
    WritesReg ((s.setReg rd s.pc).transfer target).regs s s.psr.cwp rd s.pc
    ∧ Agree ((s.setReg rd s.pc).transfer target)
        { s.ended with npc := target, regs := ((s.setReg rd s.pc).transfer target).regs } := by
  refine ⟨setReg_writesReg s rd s.pc, Agree.of_visible ?_⟩
  rw [setReg_eq]
  simp only [State.visible, State.transfer, h, Bool.false_eq_true, if_false]
  rfl

/-- Settles O47: the alignment check of JMPL decides between the transfer and the trap. -/
theorem callAndJmpl : Obligations.CallAndJmpl := by
  refine ⟨fun s d h => ⟨_, rfl, link_transfer h 15#5 _⟩, fun s rd rs1 o2 h ha => ⟨_, ?_, link_transfer h rd _⟩,
    fun s rd rs1 o2 ha => ?_⟩
  · exact if_pos (aligned_word_of ha)
  · exact if_neg fun h => ha (wordAligned_of_aligned h)

/-! ### The control registers (R34, R281 to R286) -/

theorem privileged_of_supervisor {s : State} (h : s.psr.s = true) (k : State → Result) : privileged k s = k s := if_pos h

theorem rdpsr_endsWith {s : State} (h : s.psr.s = true) (rd : Reg) :
    EndsWith (exec (.rdpsr rd) s) s rd s.psr.toWord s.psr s.y := by
  have hread : exec (.rdpsr rd) s = writeReg rd s.psr.toWord s := privileged_of_supervisor h _
  exact hread ▸ writeReg_endsWith rd _ s


/-- Every bit of the PSR as it reads, from bit 0 up (R34, R35, R38). -/
theorem psr_toWord_getLsbD (p : PSR) (i : Nat) (hi : i < 32) : p.toWord.getLsbD i =
    if i < 3 then p.cwp.getLsbD i
    else if i < 5 then false
    else if i < 6 then p.et
    else if i < 7 then p.ps
    else if i < 8 then p.s
    else if i < 12 then p.pil.getLsbD (i - 8)
    else if i < 13 then p.ef
    else if i < 14 then p.ec
    else if i < 20 then false
    else if i < 21 then p.icc.c
    else if i < 22 then p.icc.v
    else if i < 23 then p.icc.z
    else if i < 24 then p.icc.n
    else (0x11#8).getLsbD (i - 24) := by
  unfold PSR.toWord
  iterate 13 rw [BitVec.getLsbD_append]
  interval_cases i <;> simp

/-- The fields of the PSR as it reads, at their places (R34, R35, R38). -/
theorem psr_toWord_fields (p : PSR) :
    p.toWord.extractLsb' 28 4 = 1#4 ∧ p.toWord.extractLsb' 24 4 = 1#4 ∧ p.toWord.getLsbD 23 = p.icc.n
    ∧ p.toWord.getLsbD 22 = p.icc.z ∧ p.toWord.getLsbD 21 = p.icc.v ∧ p.toWord.getLsbD 20 = p.icc.c
    ∧ p.toWord.extractLsb' 14 6 = 0#6 ∧ p.toWord.getLsbD 13 = p.ec ∧ p.toWord.getLsbD 12 = p.ef
    ∧ p.toWord.extractLsb' 8 4 = p.pil ∧ p.toWord.getLsbD 7 = p.s ∧ p.toWord.getLsbD 6 = p.ps
    ∧ p.toWord.getLsbD 5 = p.et ∧ p.toWord.extractLsb' 0 5 = p.cwp.setWidth 5 := by
  have bit := psr_toWord_getLsbD p
  have field (lo n : Nat) (x : BitVec n) (h : ∀ i, i < n → p.toWord.getLsbD (lo + i) = x.getLsbD i) :
      p.toWord.extractLsb' lo n = x := by
    apply BitVec.eq_of_getLsbD_eq
    intro i hi
    rw [BitVec.getLsbD_extractLsb', h i hi]
    simp [hi]
  refine ⟨field 28 4 _ ?_, field 24 4 _ ?_, bit 23 (by decide), bit 22 (by decide), bit 21 (by decide),
    bit 20 (by decide), field 14 6 _ ?_, bit 13 (by decide), bit 12 (by decide), field 8 4 _ ?_, bit 7 (by decide),
    bit 6 (by decide), bit 5 (by decide), field 0 5 _ ?_⟩
  all_goals
    intro i hi
    rw [bit _ (by omega)]
    interval_cases i <;> simp

/-- What is written reads back but for the constant and the reserved bits, where CWP is below 8 (D3, log 6). -/
theorem psr_toWord_ofWord {v : Word} (h : v.toNat % 32 < 8) :
    (PSR.ofWord v).toWord = 0x11000000#32 ||| (v &&& 0x00F03FFF#32) := by
  have h3 : v[3] = false := by
    simp only [← BitVec.getLsbD_eq_getElem, BitVec.getLsbD, Nat.testBit_eq_decide_div_mod_eq, decide_eq_false_iff_not]
    omega
  have h4 : v[4] = false := by
    simp only [← BitVec.getLsbD_eq_getElem, BitVec.getLsbD, Nat.testBit_eq_decide_div_mod_eq, decide_eq_false_iff_not]
    omega
  apply BitVec.eq_of_getLsbD_eq
  intro i hi
  rw [psr_toWord_getLsbD _ i hi, BitVec.getLsbD_or, BitVec.getLsbD_and]
  unfold PSR.ofWord
  interval_cases i <;> simp [h3, h4]

/-- Settles O51. -/
theorem readControlRegisters : Obligations.ReadControlRegisters := by
  refine ⟨fun s rd => writeReg_endsWith rd _ s, fun s rd hs => ⟨?_, ?_, s.psr.toWord, rdpsr_endsWith hs rd, ?_⟩⟩
  · have hread : exec (.rdwim rd) s = writeReg rd s.wimWord s := privileged_of_supervisor hs _
    exact hread ▸ writeReg_endsWith rd _ s
  · have hread : exec (.rdtbr rd) s = writeReg rd s.tbr s := privileged_of_supervisor hs _
    exact hread ▸ writeReg_endsWith rd _ s
  · have hfields := psr_toWord_fields s.psr
    rwa [hs] at hfields

/-- In supervisor mode WRPSR of a value with CWP below 8 writes the PSR, and nothing else leads to a PSR of that value. -/
theorem wrpsr_psr {s t : State} {rs1 : Reg} {o2 : Operand2} (hs : s.psr.s = true)
    (hcwp : (s.reg rs1 ^^^ operand2 o2 s).toNat % 32 < 8) (h : exec (.wrpsr rs1 o2) s = .next t) :
    t.psr = PSR.ofWord (s.reg rs1 ^^^ operand2 o2 s) := by
  have hhigh : (writeValue rs1 o2 s).extractLsb' 3 2 = 0#2 := by
    apply BitVec.eq_of_toNat_eq
    rw [BitVec.extractLsb'_toNat, Nat.shiftRight_eq_div_pow]
    simp only [writeValue, BitVec.toNat_ofNat]
    omega
  have hwrite : exec (.wrpsr rs1 o2) s = .next { s with psr := PSR.ofWord (writeValue rs1 o2 s) }.advance := by
    have hlegal : ¬ ((writeValue rs1 o2 s).extractLsb' 3 2 != 0#2) = true := by simp [hhigh]
    exact (if_neg hlegal).trans (privileged_of_supervisor hs _)
  rw [hwrite] at h
  cases h
  rfl

/-- Settles O53. -/
theorem writtenPsrReadsBack : Obligations.WrittenPsrReadsBack := by
  intro s t rs1 o2 rd hs hstep v hv7 hcwp
  have hpsr := wrpsr_psr hs hcwp hstep
  have hts : t.psr.s = true := by rw [hpsr]; exact hv7
  rw [← psr_toWord_ofWord hcwp, ← hpsr]
  exact rdpsr_endsWith hts rd

end Sys2Proof.Machine
end

section
/-! PROOF. What a trap does (O13, O14), a step in which nothing happens (O10), an annulled instruction (O19), a disabled unit
(O59), and the state after power-on (O12). -/

namespace Sys2Proof.Machine

/-! ### Trap entry (R351) -/

/-- The pair goes to r[17] and r[18] of the trap window, and no other register changes. -/
theorem trapEntryAt_place (a b : Word) (t : Trap) (s : State) (j : Fin 136) :
    (trapEntryAt a b t s).regs[j.val] =
      if j = regIndex (s.psr.cwp - 1#3) 17#5 then a
      else if j = regIndex (s.psr.cwp - 1#3) 18#5 then b else s.regs[j.val] := by
  have hne : regIndex (s.psr.cwp - 1#3) 17#5 ≠ regIndex (s.psr.cwp - 1#3) 18#5 := fun e =>
    absurd ((regIndex_inj _ _ _).1 e) (by decide)
  rw [trapEntryAt_regs, setRegIn_regs, setRegIn_regs]
  by_cases h17 : j = regIndex (s.psr.cwp - 1#3) 17#5
  · simp [h17, hne]
  · simp [h17]

theorem fpuAfter_eq (t : Trap) (u : Fpu) :
    t.fpuAfter u = if t = .fpException then { u with excPending := false, excMode := !u.queue.isEmpty } else u := by
  cases t <;> rfl

theorem cpAfter_eq (t : Trap) (u : Coprocessor) :
    t.cpAfter u = if t = .cpException then { u with excPending := false, excMode := !u.queue.isEmpty } else u := by
  cases t <;> rfl

theorem isHardware_iff (t : Trap) : t.isHardware = true ↔ ∃ e, t = .hardware e := by
  cases t <;> simp [Trap.isHardware]

/-- HWERROR is asserted after a trap if it was before or the trap is a hardware error (R404). -/
theorem trapEntryAt_hwerror_iff (a b : Word) (t : Trap) (s : State) :
    (trapEntryAt a b t s).hwerror = true ↔ s.hwerror = true ∨ ∃ e, t = .hardware e := by
  rw [trapEntryAt_hwerror, Bool.or_eq_true, isHardware_iff]

theorem checkEnabled_after (enabled flow : Bool) : (enabled && !flow) = if flow then false else enabled := by
  cases flow <;> simp

/-- What trap entry leaves behind, in the terms of the statements. -/
theorem trapEntryAt_agree (a b : Word) (t : Trap) (s : State) : Agree (trapEntryAt a b t s)
    { s with
      psr := { s.psr with et := false, ps := s.psr.s, s := true, cwp := s.psr.cwp - 1#3 }
      tt := t.tt, pc := s.tba ++ t.tt ++ 0#4, npc := (s.tba ++ t.tt ++ 0#4) + 4#32
      annulNext := false, condDelay := false
      pfcCheckEnabled := if s.cfg.flowEnabled then false else s.pfcCheckEnabled
      fpu := if t = .fpException then { s.fpu with excPending := false, excMode := !s.fpu.queue.isEmpty } else s.fpu
      cp := if t = .cpException then { s.cp with excPending := false, excMode := !s.cp.queue.isEmpty } else s.cp
      regs := (trapEntryAt a b t s).regs, hwerror := (trapEntryAt a b t s).hwerror } := by
  rw [← fpuAfter_eq, ← cpAfter_eq, ← checkEnabled_after]
  exact .of_record rfl

/-- With traps disabled every synchronous trap ends in error mode (R356). -/
theorem raiseAt_of_disabled {s : State} (h : s.psr.et = false) (a b : Word) (t : Trap) :
    raiseAt a b t s = (trapEntryAt a b t s).enterError := by simp [raiseAt, h]

theorem raiseAt_of_enabled {s : State} (h : s.psr.et = true) (a b : Word) (t : Trap) :
    raiseAt a b t s = trapEntryAt a b t s := by simp [raiseAt, h]

/-- Settles O13. -/
theorem trapEntry : Obligations.TrapEntry := by
  intro t s het
  refine ⟨rfl, fun a b => ⟨_, rfl, ?_⟩⟩
  rw [raiseAt_of_enabled het]
  exact ⟨trapEntryAt_place a b t s, trapEntryAt_agree a b t s, trapEntryAt_hwerror_iff a b t s, rfl,
    fun p h => Bool.false_ne_true h.1, fun t' => by rw [raiseAt_of_disabled rfl, State.enterError_mode]⟩

/-- Settles O14: the trap is entered as ever, and then error mode. -/
theorem trapWithTrapsDisabled : Obligations.TrapWithTrapsDisabled := by
  intro t s het
  have hagree := trapEntryAt_agree s.pc s.npc t s
  refine ⟨(trapEntryAt s.pc s.npc t s).enterError, by rw [raise, raiseAt_of_disabled het], rfl, by simp,
    trapEntryAt_place s.pc s.npc t s, ?_, trapEntryAt_hwerror_iff s.pc s.npc t s⟩
  exact { hagree with mode := rfl, psr := by simp [het] }

/-! ### Steps in which nothing happens (R356, R440) -/

theorem nextSample_visible {s : State} (h : s.sample.still) : s.nextSample.visible = s.visible := by
  rw [nextSample_of_still h]; rfl

/-- HALT and the holds let nothing happen in any mode. -/
theorem sampledStep_held {run : Instr → State → Result} {s : State} (hf : s.cfg.fpsyn = false)
    (hfault : s.pins.resetFault = false) (hr : s.pins.reset = false) (h : s.pins.halt = true ∨ s.pins.hold = true) :
    sampledStep run s = .next s := by
  simp [sampledStep, hf, hfault, hr, h]

/-- Error mode lasts without RESET; an error in its coding asserts ERROR anew (R451, log 48). -/
theorem sampledStep_error {run : Instr → State → Result} {s : State} (hf : s.cfg.fpsyn = false) (hm : s.mode = .error)
    (hr : s.pins.reset = false) : sampledStep run s = .next s ∨ sampledStep run s = .next s.enterError := by
  cases hfault : s.pins.resetFault
  · left; simp [sampledStep, hf, hfault, hr, hm]
  · right; simp [sampledStep, hf, hfault]

theorem enterError_visible {s : State} (h : s.mode = .error) : s.enterError.visible = s.visible := by
  rw [State.enterError, ← h]; rfl

/-- Settles O10. -/
theorem onlyResetLeavesErrorMode : Obligations.OnlyResetLeavesErrorMode := by
  refine ⟨fun s hf hm hr hstill => ?_, fun s hf hr hfault hstill h => ?_⟩
  · have hagree := nextSample_visible hstill
    rcases sampledStep_error (run := exec) (s := s.nextSample) hf hm hr with e | e
    · exact ⟨_, e, .of_visible hagree⟩
    · exact ⟨_, e, .of_visible ((enterError_visible (s := s.nextSample) hm).trans hagree)⟩
  · exact ⟨_, sampledStep_held (s := s.nextSample) hf hfault hr h, .of_visible (nextSample_visible hstill)⟩

/-! ### An annulled instruction (R52, R243, R392) -/

/-- `s` with its sample taken, where nothing drives it from outside, as a step in execute mode finds it. -/
def State.atStep (s : State) : State :=
  { s with pins := s.sample, env := s.env.tail, events := [], wrote := [], badLoad := false }.settleHwerror

/-- With no interrupt due an annulled instruction takes the step, whatever hardware errors are reported. -/
theorem step_annulled {s : State} (hrun : s.running) (hann : s.annulNext = true) (hp : s.sample.unheld)
    (hint : ¬ InterruptRequested s s.sample) : step s = annulledStep s.atStep := by
  have hstep : step s = executeStep exec s.nextSample.settleHwerror :=
    sampledStep_execute (s := s.nextSample) hrun hp
  obtain ⟨_, _, _, _, hstill⟩ := hp
  have hnot : s.atStep.interruptDue = false := by
    rw [← Bool.not_eq_true, interruptDue_iff]; exact hint
  have hann' : s.atStep.annulNext = true := hann
  rw [hstep, nextSample_of_still hstill]
  change executeStep exec s.atStep = _
  simp [executeStep, hnot, hann']

/-- However the fetch of an annulled instruction is answered, some word is skipped (log 25). -/
theorem annulledStep_skips (s : State) : ∃ w n, annulledStep s = .next ({ s.afterFetch with draws := n }.skip w) := by
  unfold annulledStep
  rcases busFetch_cases s with ⟨w, n, e⟩ | e <;> rw [e]
  · exact ⟨w, n, rfl⟩
  · exact ⟨_, s.draws + 1, rfl⟩

/-- Settles O19. -/
theorem annulledInstructionDoesNothing : Obligations.AnnulledInstructionDoesNothing := by
  refine ⟨fun s hrun hann hp hint hk hset hmexc => ?_, fun s hrun hann hp hint => ?_⟩
  · have hskip : annulledStep s.atStep = .next (s.atStep.afterFetch.skip s.wordAtPc) := by
      have hfetch : busFetch s.atStep = .ok s.wordAtPc s.atStep.afterFetch := busFetch_storage hmexc hk hset
      rw [annulledStep, hfetch]
    exact ⟨_, (step_annulled hrun hann hp hint).trans hskip, .of_record rfl⟩
  · obtain ⟨w, n, e⟩ := annulledStep_skips s.atStep
    refine ⟨_, (step_annulled hrun hann hp hint).trans e, fun hflow => ?_, .of_record rfl⟩
    have hoff : s.atStep.cfg.flowEnabled = false := hflow
    rw [State.skip_pfcSum]
    exact if_neg (by simp [hoff])

/-! ### Disabled units (R341, R342) -/

theorem withFp_of_off {s : State} (h : s.fpOff) (k : State → Result) : withFp k s = raise .fpDisabled s :=
  if_neg fun e => (fpEnabled_iff s).1 e h

theorem withCp_of_off {s : State} (h : s.cpOff) (k : State → Result) : withCp k s = raise .cpDisabled s :=
  if_neg fun e => (cpEnabled_iff s).1 e h

/-- With the FPU off every floating-point instruction traps, its first check being the FPU's. -/
theorem fp_off_traps {s : State} (h : s.fpOff) {rd rs1 rs2 : Reg} {o2 : Operand2} {opf : BitVec 9} {a : Bool}
    {d : BitVec 22} {i : Instr}
    (hi : i ∈ fbfccForms a d ++ fpopForms rd rs1 rs2 opf ++ fpWordForms rd rs1 o2 ++ fpDoubleForms rd rs1 o2) :
    Traps .fpDisabled i s := by
  have guarded : ∃ k, exec i s = withFp k s := by
    simp only [List.mem_append] at hi
    rcases hi with ((hi | hi) | hi) | hi
    · obtain ⟨cond, e⟩ := exec_fbfccForms hi
      exact ⟨_, congrFun e s⟩
    · obtain ⟨k, e⟩ := exec_fpopForms hi s
      exact ⟨_, e⟩
    · obtain ⟨access, e⟩ := exec_fpWordForms hi s
      exact ⟨_, e⟩
    · obtain ⟨access, e⟩ := exec_fpDoubleForms hi s
      exact ⟨_, e⟩
  obtain ⟨k, e⟩ := guarded
  rw [Traps, e, withFp_of_off h, raise]

/-- With the coprocessor off every coprocessor instruction traps. -/
theorem cp_off_traps {s : State} (h : s.cpOff) {rd rs1 rs2 : Reg} {o2 : Operand2} {opc : BitVec 9} {a : Bool}
    {d : BitVec 22} {i : Instr}
    (hi : i ∈ cbcccForms a d ++ [.cpop1 rd rs1 opc rs2, .cpop2 rd rs1 opc rs2] ++ cpWordForms rd rs1 o2
      ++ cpDoubleForms rd rs1 o2) : Traps .cpDisabled i s := by
  have guarded : ∃ k, exec i s = withCp k s := by
    rcases List.mem_append.1 hi with hi | hi
    · rcases List.mem_append.1 hi with hi | hi
      · rcases List.mem_append.1 hi with hi | hi
        · obtain ⟨cond, e⟩ := exec_cbcccForms hi
          exact ⟨_, congrFun e s⟩
        · obtain ⟨k, e⟩ := exec_cpopForms hi s
          exact ⟨_, e⟩
      · obtain ⟨access, e⟩ := exec_cpWordForms hi s
        exact ⟨_, e⟩
    · obtain ⟨access, e⟩ := exec_cpDoubleForms hi s
      exact ⟨_, e⟩
  obtain ⟨k, e⟩ := guarded
  rw [Traps, e, withCp_of_off h, raise]

/-- Wrong parity of the FPU's control lines disables every FBfcc, the FPU being on or off (R403, log 29). -/
theorem fbfcc_parity {s : State} (hp : (s.cfg.parityInEnabled && s.pins.fipar) = true) (cond : BitVec 4) (a : Bool)
    (d : BitVec 22) : fbfcc cond a d s = raise .fpDisabled s := by
  by_cases h : s.fpOff
  · exact withFp_of_off h _
  · rw [fbfcc, withFp_of_on h, if_pos hp]

/-- Settles O59: the queue stores are privileged first, and every other unit instruction asks for its unit first. -/
theorem disabledUnitsTrap : Obligations.DisabledUnitsTrap := by
  intro s rd rs1 rs2 o2 opf a d
  refine ⟨fun h => ⟨fun i hi => fp_off_traps h hi, fun hs => ?_⟩, fun h => ⟨fun i hi => cp_off_traps h hi, fun hs => ?_⟩,
    fun hpar hfipar i hi => ?_⟩
  · exact (privileged_of_supervisor hs _).trans (withFp_of_off h _)
  · exact (privileged_of_supervisor hs _).trans (withCp_of_off h _)
  · obtain ⟨cond, e⟩ := exec_fbfccForms hi
    rw [Traps, e, fbfcc_parity (by rw [hpar, hfipar]; rfl), raise]

/-! ### Power-on (R57, R59) -/

/-- Settles O12. -/
theorem powerOnValues : Obligations.PowerOnValues := ⟨rfl, rfl, rfl, rfl, rfl, rfl, rfl, rfl, rfl⟩

end Sys2Proof.Machine
end

section
/-! PROOF. The loads and stores of the two units (O55, O56): what a completed access leaves, then each instruction
with a ready unit and in exception mode. -/

namespace Sys2Proof.Machine

/-! ### Accesses that complete -/

/-- `s` with the bytes `bs` stored from `a` on. -/
def State.storing (s : State) (asi : Asi) (a : Word) (bs : List Byte) : State :=
  { s with mem := writeCells s.mem (cellsAt s.platform asi a bs) }

@[simp] theorem storing_visible (s : State) (asi : Asi) (a : Word) (bs : List Byte) :
    (s.storing asi a bs).visible = s.visible.storing asi a bs := rfl

@[simp] theorem storeBytes_visible (s : State) (asi : Asi) (a : Word) (z : AccessSize) (v : Word) :
    (s.storeBytes asi a z v).visible = s.visible.storing asi a (storedBytes z v) := rfl

theorem writeCells_append (m xs ys : List Host.Cell) : writeCells m (xs ++ ys) = writeCells (writeCells m xs) ys :=
  List.foldl_append

theorem cellsAt_append (p : List Region) (asi : Asi) (a : Word) (xs ys : List Byte) :
    cellsAt p asi a (xs ++ ys) = cellsAt p asi a xs ++ cellsAt p asi (a + BitVec.ofNat 32 xs.length) ys := by
  induction xs generalizing a with
  | nil => simp [cellsAt]
  | cons x xs ih =>
    have hlen : a + 1#32 + BitVec.ofNat 32 xs.length = a + BitVec.ofNat 32 (xs.length + 1) := by
      rw [BitVec.ofNat_add, BitVec.add_assoc, BitVec.add_comm 1#32]
    simp only [List.cons_append, cellsAt, ih, List.length_cons, hlen]

/-- Storing bytes and then those behind them stores the whole run. -/
theorem storing_storing (s : State) (asi : Asi) (a : Word) (xs ys : List Byte) :
    (s.storing asi a xs).storing asi (a + BitVec.ofNat 32 xs.length) ys = s.storing asi a (xs ++ ys) := by
  simp only [State.storing, cellsAt_append, writeCells_append]

/-- The cells of the `n` bytes from `a` on are different from each other. -/
def DistinctCells (p : List Region) (asi : Asi) (a : Word) (n : Nat) : Prop :=
  ∀ i j, i < n → j < n →
    cellKey p asi (a + BitVec.ofNat 32 i) = cellKey p asi (a + BitVec.ofNat 32 j) → i = j

/-- Bytes that share their doubleword have different cells. -/
theorem distinctCells_of_block {p : List Region} {asi : Asi} {a : Word} {n : Nat} (hn : n ≤ 8)
    (h : ∀ i, i < n → (a + BitVec.ofNat 32 i).extractLsb' 3 29 = a.extractLsb' 3 29) : DistinctCells p asi a n := by
  intro i j hi hj e
  rw [cellKey_inj ((h i hi).trans (h j hj).symm)] at e
  have e := congrArg BitVec.toNat e
  simp only [BitVec.toNat_add, BitVec.toNat_ofNat] at e
  omega

theorem distinctCells_word (p : List Region) (asi : Asi) {a : Word} (h : a.extractLsb' 0 2 = 0#2) :
    DistinctCells p asi a 4 := distinctCells_of_block (by decide) fun _ => block_add_word h

theorem distinctCells_double (p : List Region) (asi : Asi) {a : Word} (h : a.extractLsb' 0 3 = 0#3) :
    DistinctCells p asi a 8 := distinctCells_of_block (by decide) fun _ => block_add h

/-- Bytes stored in different cells read back. -/
theorem readCell_store_inside {p : List Region} {asi : Asi} {bs : List Byte} (m : List Host.Cell) {a : Word}
    (hd : DistinctCells p asi a bs.length) {i : Nat} (hi : i < bs.length) :
    readCell (writeCells m (cellsAt p asi a bs)) (cellKey p asi (a + BitVec.ofNat 32 i)) = bs[i] := by
  induction bs generalizing m a i with
  | nil => cases hi
  | cons b bs ih =>
    have hnext (j : Nat) : a + 1#32 + BitVec.ofNat 32 j = a + BitVec.ofNat 32 (j + 1) := by
      rw [BitVec.ofNat_add, BitVec.add_assoc, BitVec.add_comm 1#32]
    rw [cellsAt, writeCells_cons]
    cases i with
    | zero =>
      rw [readCell_store_outside, readCell_writeCell]
      · simp
      · intro j hj e
        rw [hnext] at e
        exact absurd (hd 0 (j + 1) hi (by simpa using hj) e) (by omega)
    | succ i =>
      have hd' : DistinctCells p asi (a + 1#32) bs.length := by
        intro j k hj hk e
        rw [hnext, hnext] at e
        have hjk := hd (j + 1) (k + 1) (Nat.succ_lt_succ hj) (Nat.succ_lt_succ hk) e
        omega
      rw [← hnext i, ih _ hd' (Nat.lt_of_succ_lt_succ hi), List.getElem_cons_succ]

/-- Memory with bytes written to different cells holds them, and every other byte as before. -/
theorem stores_storing {t s : State} {asi : Asi} {a : Word} {bs : List Byte}
    (hd : DistinctCells s.platform asi a bs.length) (hm : t.mem = (s.storing asi a bs).mem) : Stores t s asi a bs := by
  rw [State.storing] at hm
  refine ⟨fun i => ?_, fun k hk => ?_⟩
  · rw [hm, readCell_store_inside s.mem hd i.isLt]
  · rw [hm, readCell_store_outside s.platform s.mem asi a bs k hk]

/-- A load of a word that storage answers ends in `s` but for the record. -/
theorem loadOne_completes {asi : Asi} {a : Word} {s : State} (hu : s.undisturbed) (hk : s.readable asi a)
    (finish : Word → State → State) :
    ∃ r, loadOne .word asi a finish s = .next (finish (s.wordAt asi a) (s.withRecord r)) :=
  ⟨s.popAnswer.emit (readCycle asi a .word false false), loadOne_storage hu hk finish⟩

theorem loadTwo_completes {asi : Asi} {a : Word} {s : State} (hu : s.undisturbed) (hk : s.readable asi a)
    (hk' : s.readable asi (a + 4#32)) (onExc : State → Result) (finish : Word → Word → State → State) :
    ∃ r, loadTwo asi a onExc finish s
      = .next (finish (s.wordAt asi a) (s.wordAt asi (a + 4#32)) (s.withRecord r)) := by
  rw [loadTwo_storage hu hk hk', readValue_double, readValue_double]
  exact ⟨_, congrArg (fun u => (Host.Outcome.next (finish _ _ u) : Result)) (withRecord_of_visible (by simp)).symm⟩

/-- A store of a word that storage takes ends in `s` with the bytes stored, but for the record. -/
theorem storeOne_completes {asi : Asi} {a : Word} {s : State} (hu : s.undisturbed) (hk : s.writable asi a) (v : Word)
    (finish : State → State) :
    ∃ r, storeOne .word asi a v finish s = .next (finish ((s.storing asi a (bytesBE v)).withRecord r)) := by
  rw [storeOne, busWrite_ram (nextAnswer_of_undisturbed hu) hk, andThen_ok]
  refine ⟨_, congrArg (fun u => (Host.Outcome.next (finish u) : Result)) (withRecord_of_visible ?_).symm⟩
  simp only [storeBytes_visible, emit_visible, popAnswer_visible, storing_visible]
  rfl

theorem storeTwo_completes {asi : Asi} {a : Word} {s : State} (hu : s.undisturbed) (hk : s.writable asi a)
    (hk' : s.writable asi (a + 4#32)) (hi lo : Word) (finish : State → State) :
    ∃ r, storeTwo asi a hi lo finish s
      = .next (finish ((s.storing asi a (bytesBE hi ++ bytesBE lo)).withRecord r)) := by
  have hnext :
      ((s.popAnswer.emit (writeCycle asi a .double hi false)).storeBytes asi a .double hi).nextAnswer = .ready :=
    nextAnswer_of_undisturbed (undisturbed_popAnswer hu)
  rw [storeTwo, busWrite_ram (nextAnswer_of_undisturbed hu) hk, andThen_ok, busWrite_ram hnext hk', andThen_ok]
  refine ⟨_, congrArg (fun u => (Host.Outcome.next (finish u) : Result)) (withRecord_of_visible ?_).symm⟩
  rw [← storing_storing]
  simp only [storeBytes_visible, emit_visible, popAnswer_visible, storing_visible]
  rfl

/-! ### The registers of the units -/

theorem freg_setFreg (s : State) (r i : Reg) (v : Word) : (s.setFreg r v).freg i = if i = r then v else s.freg i := by
  by_cases h : i = r
  · simp [State.freg, h]
  · have hne : r.toNat ≠ i.toNat := fun e => h (BitVec.eq_of_toNat_eq e.symm)
    simp [State.freg, h, hne]

theorem creg_setCreg (s : State) (r i : Reg) (v : Word) : (s.setCreg r v).creg i = if i = r then v else s.creg i := by
  by_cases h : i = r
  · simp [State.creg, h]
  · have hne : r.toNat ≠ i.toNat := fun e => h (BitVec.eq_of_toNat_eq e.symm)
    simp [State.creg, h, hne]

theorem putFreg_writesF (rd : Reg) (v : Word) (s : State) : WritesF (putFreg rd v s) s [rd] fun _ => v := fun r => by
  simp only [List.mem_singleton]
  exact freg_setFreg s rd r v

theorem putCreg_writesC (rd : Reg) (v : Word) (s : State) : WritesC (putCreg rd v s) s [rd] fun _ => v := fun r => by
  simp only [List.mem_singleton]
  exact creg_setCreg s rd r v

/-- The value of a register of a pair: the even one is written first, the odd one after it. -/
theorem pair_value (rd r : Reg) (hi lo old : Word) :
    (if r = oddReg rd then lo else if r = evenReg rd then hi else old)
      = if r ∈ doubleGroup rd then (if r = rd &&& 30#5 then hi else lo) else old := by
  have hne : evenReg rd ≠ oddReg rd := evenReg_ne_oddReg rd
  change _ = if r ∈ [evenReg rd, oddReg rd] then (if r = evenReg rd then hi else lo) else old
  by_cases ho : r = oddReg rd
  · simp [ho, hne.symm]
  · by_cases he : r = evenReg rd <;> simp [ho, he, hne]

theorem putFregPair_writesF (rd : Reg) (hi lo : Word) (s : State) :
    WritesF (putFregPair rd hi lo s) s (doubleGroup rd) fun r => if r = rd &&& 30#5 then hi else lo := fun r => by
  rw [← pair_value]
  exact (freg_setFreg _ _ r lo).trans (by rw [freg_setFreg])

theorem putCregPair_writesC (rd : Reg) (hi lo : Word) (s : State) :
    WritesC (putCregPair rd hi lo s) s (doubleGroup rd) fun r => if r = rd &&& 30#5 then hi else lo := fun r => by
  rw [← pair_value]
  exact (creg_setCreg _ _ r lo).trans (by rw [creg_setCreg])

/-! ### Exception mode -/

/-- In exception mode the end of an instruction is the same for all: a free answer that keeps mode and queue
(log 12). -/
theorem fpEnds_inMode {s : State} (h : s.fpu.excMode = true) (data : List Word) (ready : State → State) :
    ∃ v, fpEnds data ready s = { s with fpu := fpKeepsMode s.fpu v }.advance := ⟨_, if_pos h⟩

theorem cpEnds_inMode {s : State} (h : s.cp.excMode = true) (data : List Word) (ready : State → State) :
    ∃ v, cpEnds data ready s = { s with cp := cpKeepsMode s.cp v }.advanceCp := ⟨_, if_pos h⟩

theorem keepsFpMode_of {t s : State} {v : Fpu} (h : t.fpu = fpKeepsMode s.fpu v) : KeepsFpMode t s := by
  rw [KeepsFpMode, h]
  exact ⟨rfl, v.queue, rfl⟩

theorem keepsCpMode_of {t s : State} {v : Coprocessor} (h : t.cp = cpKeepsMode s.cp v) : KeepsCpMode t s := by
  rw [KeepsCpMode, h]
  exact ⟨rfl, v.queue, rfl⟩

/-! ### Floating-point accesses with a ready FPU and in exception mode (R161) -/

theorem fpOn {s : State} (hef : s.psr.ef = true) (hfp : s.cfg.fpPresent = true) : ¬ s.fpOff := by
  simp [State.fpOff, hef, hfp]

theorem launchFp_idle {s : State} (h : s.fpu.excPending = false) (k : State → Result) :
    launchFp k s = k (s.emit (.launchFp s.ir s.pc)) := if_neg (by simp [h])

theorem fpSupplies_ready {s : State} (h : s.fpReady) (k : Nat) (v : Word) : s.fpSupplies k v = v := by
  obtain ⟨_, _, _, hmode⟩ := h
  exact if_neg (by simp [hmode])

/-- An aligned access of an FPU that is on and has no exception pending is launched. -/
theorem fpMemory_launches {z : AccessSize} {a : Word} {s : State} (hef : s.psr.ef = true) (hfp : s.cfg.fpPresent = true)
    (hpend : s.fpu.excPending = false) (ha : aligned z a = true) (access : State → Result) :
    fpMemory z a access s = access (s.emit (.launchFp s.ir s.pc)) := by
  rw [fpMemory, withFp_of_on (fpOn hef hfp), whenAligned_of_aligned ha, launchFp_idle hpend]

section FpAccess

variable {z : AccessSize} {a : Word} {s u : State} {access : State → Result} {data : List Word} {ready : State → State}

/-- With a ready FPU a completed access ends as it does with a ready FPU. -/
theorem fpMemory_ready (hr : s.fpReady) (ha : aligned z a = true)
    (he : ∃ r, access (s.emit (.launchFp s.ir s.pc)) = .next (fpEnds data ready (u.withRecord r)))
    (hunit : u.fpu = s.fpu) : ∃ r, fpMemory z a access s = .next (ready (u.withRecord r)) := by
  obtain ⟨hef, hfp, hpend, hmode⟩ := hr
  obtain ⟨r, e⟩ := he
  have hready : (u.withRecord r).fpu.excMode = false := (congrArg Fpu.excMode hunit).trans hmode
  rw [fpMemory_launches hef hfp hpend ha, e, fpEnds_ready hready]
  exact ⟨r, rfl⟩

/-- In exception mode a completed access leaves the FPU in that mode with the entries of its queue. -/
theorem fpMemory_inMode (hm : s.fpInExceptionMode) (ha : aligned z a = true)
    (he : ∃ r, access (s.emit (.launchFp s.ir s.pc)) = .next (fpEnds data ready (u.withRecord r)))
    (hunit : u.fpu = s.fpu) :
    ∃ t, fpMemory z a access s = .next t ∧ KeepsFpMode t s ∧ t.mem = u.mem ∧ Agree t { u.ended with fpu := t.fpu } := by
  obtain ⟨hef, hfp, hpend, hmode⟩ := hm
  obtain ⟨r, e⟩ := he
  have hmode' : (u.withRecord r).fpu.excMode = true := (congrArg Fpu.excMode hunit).trans hmode
  obtain ⟨v, ev⟩ := fpEnds_inMode hmode' data ready
  rw [fpMemory_launches hef hfp hpend ha, e, ev]
  exact ⟨_, rfl, keepsFpMode_of (congrArg (fpKeepsMode · v) hunit), rfl, .of_record rfl⟩

end FpAccess

/-- STDFQ with the FPU on, in supervisor mode and at an aligned address, stores from the queue. -/
theorem exec_stdfq_on {s : State} {rs1 : Reg} {o2 : Operand2} (hs : s.psr.s = true) (hon : ¬ s.fpOff)
    (ha : (effectiveAddress rs1 o2 s).extractLsb' 0 3 = 0#3) :
    exec (.stdfq rs1 o2) s = storeFpQueue (effectiveAddress rs1 o2 s) s :=
  (privileged_of_supervisor hs _).trans
    ((withFp_of_on hon _).trans (whenAligned_of_aligned (aligned_double_of ha) _ s))

/-- The front entry of the queue is stored and leaves it, whatever mode the FPU is in (R170). -/
theorem storeFpQueue_stores {s : State} {a : Word} (hu : s.undisturbed) (hk : s.writable s.dataAsi a)
    (hk' : s.writable s.dataAsi (a + 4#32)) (ha : a.extractLsb' 0 3 = 0#3) {addr instr : Word}
    {rest : List (Word × Word)} (hq : s.fpu.queue = (addr, instr) :: rest) :
    ∃ t, storeFpQueue a s = .next t ∧ Stores t s s.dataAsi a (bytesBE addr ++ bytesBE instr)
      ∧ Agree t { s.ended with
          mem := t.mem, fpu := { s.fpu with queue := rest, excMode := s.fpu.excMode && !rest.isEmpty } } := by
  obtain ⟨r, e⟩ := storeTwo_completes (s := s.emit (.launchFp s.ir s.pc)) hu hk hk' addr instr dropFpQueue
  have hstore : storeFpQueue a s = storeTwo s.dataAsi a addr instr dropFpQueue (s.emit (.launchFp s.ir s.pc)) := by
    rw [storeFpQueue, hq]
  obtain rfl : s.fpu.queue.tail = rest := by rw [hq]; rfl
  exact ⟨_, hstore.trans e, stores_storing (distinctCells_double _ _ ha) rfl, .of_record rfl⟩

/-- With an empty queue there is nothing to store, and the model refuses as the spec does (I20, log 13). -/
theorem storeFpQueue_empty {s : State} (hq : s.fpu.queue = []) (a : Word) :
    storeFpQueue a s = .refused .fpQueueEmpty := by
  rw [storeFpQueue, hq]

/-- Settles O55: each load and store is a completed access, which ends by the FPU's being ready or in exception mode. -/
theorem fpLoadsAndStores : Obligations.FpLoadsAndStores := by
  intro s rd rs1 o2 hu ea asi
  have hload (hk : s.readable asi ea) (finish : Word → State → State) :
      ∃ r, loadOne .word asi ea finish (s.emit (.launchFp s.ir s.pc))
        = .next (finish (s.wordAt asi ea) (s.withRecord r)) :=
    loadOne_completes (s := s.emit (.launchFp s.ir s.pc)) hu hk finish
  have hpair (hk : s.readable asi ea) (hk' : s.readable asi (ea + 4#32)) (finish : Word → Word → State → State) :
      ∃ r, loadTwo asi ea (fpPairRefused rd) finish (s.emit (.launchFp s.ir s.pc))
        = .next (finish (s.wordAt asi ea) (s.wordAt asi (ea + 4#32)) (s.withRecord r)) :=
    loadTwo_completes (s := s.emit (.launchFp s.ir s.pc)) hu hk hk' (fpPairRefused rd) finish
  have hstore (hk : s.writable asi ea) (v : Word) :
      ∃ r, storeOne .word asi ea v (fpEnds [] State.advance) (s.emit (.launchFp s.ir s.pc))
        = .next (fpEnds [] State.advance ((s.storing asi ea (bytesBE v)).withRecord r)) :=
    storeOne_completes (s := s.emit (.launchFp s.ir s.pc)) hu hk v _
  have hstores (hk : s.writable asi ea) (hk' : s.writable asi (ea + 4#32)) (hi lo : Word) :
      ∃ r, storeTwo asi ea hi lo (fpEnds [] State.advance) (s.emit (.launchFp s.ir s.pc))
        = .next (fpEnds [] State.advance ((s.storing asi ea (bytesBE hi ++ bytesBE lo)).withRecord r)) :=
    storeTwo_completes (s := s.emit (.launchFp s.ir s.pc)) hu hk hk' hi lo _
  refine ⟨codeOf_withCode _ _ _, fun hr hk ha => ⟨?_, ?_⟩, fun hr hk hk' ha => ?_, fun hr hk ha => ⟨?_, ?_⟩,
    fun hr hk hk' ha => ?_, fun hs hon hk hk' ha _ _ _ hq => ?_,
    fun hs hon ha hq => (exec_stdfq_on hs hon ha).trans (storeFpQueue_empty hq _),
    fun hm => ⟨fun i hi => ?_, fun i hk ha hi => ?_, fun hk hk' ha => ?_⟩⟩
  · obtain ⟨r, e⟩ := fpMemory_ready hr (aligned_word_of ha) (hload hk fun v => fpEnds [v] (putFreg rd v)) rfl
    exact ⟨_, e, putFreg_writesF rd _ _, .of_record rfl⟩
  · obtain ⟨r, e⟩ := fpMemory_ready hr (aligned_word_of ha) (hload hk fun v => fpEnds [v] (putFsr v)) rfl
    exact ⟨_, e, .of_record rfl⟩
  · obtain ⟨r, e⟩ := fpMemory_ready hr (aligned_double_of ha)
      (hpair hk hk' fun hi lo => fpEnds [hi, lo] (putFregPair rd hi lo)) rfl
    exact ⟨_, e, putFregPair_writesF rd _ _ _, .of_record rfl⟩
  · obtain ⟨r, e⟩ := fpMemory_ready hr (aligned_word_of ha) (hstore hk (s.fpSupplies 0 (s.freg rd))) rfl
    rw [← fpSupplies_ready hr 0 (s.freg rd)]
    exact ⟨_, e, stores_storing (distinctCells_word _ _ ha) rfl, .of_record rfl⟩
  · obtain ⟨r, e⟩ := fpMemory_ready hr (aligned_word_of ha) (hstore hk (s.fpSupplies 0 (fsrWord s.fpu))) rfl
    rw [← fpSupplies_ready hr 0 (fsrWord s.fpu)]
    exact ⟨_, e, stores_storing (distinctCells_word _ _ ha) rfl, .of_record rfl⟩
  · obtain ⟨r, e⟩ := fpMemory_ready hr (aligned_double_of ha)
      (hstores hk hk' (s.fpSupplies 0 (s.freg (evenReg rd))) (s.fpSupplies 1 (s.freg (oddReg rd)))) rfl
    rw [← fpSupplies_ready hr 0 (s.freg (rd &&& 30#5)), ← fpSupplies_ready hr 1 (s.freg (rd ||| 1#5))]
    exact ⟨_, e, stores_storing (distinctCells_double _ _ ha) rfl, .of_record rfl⟩
  · rw [exec_stdfq_on hs hon ha]
    exact storeFpQueue_stores hu hk hk' ha hq
  · rcases hi with ⟨hk, ha, rfl | rfl⟩ | ⟨hk, hk', ha, rfl⟩
    · obtain ⟨t, e, hkeeps, _, hagree⟩ :=
        fpMemory_inMode hm (aligned_word_of ha) (hload hk fun v => fpEnds [v] (putFreg rd v)) rfl
      exact ⟨t, e, hkeeps, hagree⟩
    · obtain ⟨t, e, hkeeps, _, hagree⟩ :=
        fpMemory_inMode hm (aligned_word_of ha) (hload hk fun v => fpEnds [v] (putFsr v)) rfl
      exact ⟨t, e, hkeeps, hagree⟩
    · obtain ⟨t, e, hkeeps, _, hagree⟩ := fpMemory_inMode hm (aligned_double_of ha)
        (hpair hk hk' fun hi lo => fpEnds [hi, lo] (putFregPair rd hi lo)) rfl
      exact ⟨t, e, hkeeps, hagree⟩
  · have hstf (v : Word) := fpMemory_inMode hm (aligned_word_of ha) (hstore hk v) rfl
    rcases hi with rfl | rfl
    · obtain ⟨t, e, hkeeps, hmem, hagree⟩ := hstf (s.fpSupplies 0 (s.freg rd))
      exact ⟨t, _, e, hkeeps, stores_storing (distinctCells_word _ _ ha) hmem, by rw [hmem]; exact hagree⟩
    · obtain ⟨t, e, hkeeps, hmem, hagree⟩ := hstf (s.fpSupplies 0 (fsrWord s.fpu))
      exact ⟨t, _, e, hkeeps, stores_storing (distinctCells_word _ _ ha) hmem, by rw [hmem]; exact hagree⟩
  · obtain ⟨t, e, hkeeps, hmem, hagree⟩ := fpMemory_inMode hm (aligned_double_of ha)
      (hstores hk hk' (s.fpSupplies 0 (s.freg (evenReg rd))) (s.fpSupplies 1 (s.freg (oddReg rd)))) rfl
    exact ⟨t, _, _, e, hkeeps, stores_storing (distinctCells_double _ _ ha) hmem, by rw [hmem]; exact hagree⟩


/-! ### Coprocessor accesses with a ready coprocessor and in exception mode (R161, R171) -/

theorem cpOn {s : State} (hec : s.psr.ec = true) (hcp : s.cfg.cpPresent = true) : ¬ s.cpOff := by
  simp [State.cpOff, hec, hcp]

theorem launchCp_idle {s : State} (h : s.cp.excPending = false) (k : State → Result) :
    launchCp k s = k (s.emit (.launchCp s.ir s.pc)) := if_neg (by simp [h])

theorem cpSupplies_ready {s : State} (h : s.cpReady) (k : Nat) (v : Word) : s.cpSupplies k v = v := by
  obtain ⟨_, _, _, hmode⟩ := h
  exact if_neg (by simp [hmode])

/-- An aligned access of a coprocessor that is on and has no exception pending is launched. -/
theorem cpMemory_launches {z : AccessSize} {a : Word} {s : State} (hec : s.psr.ec = true) (hcp : s.cfg.cpPresent = true)
    (hpend : s.cp.excPending = false) (ha : aligned z a = true) (access : State → Result) :
    cpMemory z a access s = access (s.emit (.launchCp s.ir s.pc)) := by
  rw [cpMemory, withCp_of_on (cpOn hec hcp), whenAligned_of_aligned ha, launchCp_idle hpend]

section CpAccess

variable {z : AccessSize} {a : Word} {s u : State} {access : State → Result} {data : List Word} {ready : State → State}

/-- With a ready coprocessor a completed access ends as it does with a ready coprocessor. -/
theorem cpMemory_ready (hr : s.cpReady) (ha : aligned z a = true)
    (he : ∃ r, access (s.emit (.launchCp s.ir s.pc)) = .next (cpEnds data ready (u.withRecord r)))
    (hunit : u.cp = s.cp) : ∃ r, cpMemory z a access s = .next (ready (u.withRecord r)) := by
  obtain ⟨hec, hcp, hpend, hmode⟩ := hr
  obtain ⟨r, e⟩ := he
  have hready : (u.withRecord r).cp.excMode = false := (congrArg Coprocessor.excMode hunit).trans hmode
  rw [cpMemory_launches hec hcp hpend ha, e, cpEnds_ready hready]
  exact ⟨r, rfl⟩

/-- In exception mode a completed access leaves the coprocessor in that mode with the entries of its queue. -/
theorem cpMemory_inMode (hm : s.cpInExceptionMode) (ha : aligned z a = true)
    (he : ∃ r, access (s.emit (.launchCp s.ir s.pc)) = .next (cpEnds data ready (u.withRecord r)))
    (hunit : u.cp = s.cp) :
    ∃ t, cpMemory z a access s = .next t ∧ KeepsCpMode t s ∧ t.mem = u.mem
      ∧ Agree t { u.ended with cpCompare := u.cpCompare, cp := t.cp } := by
  obtain ⟨hec, hcp, hpend, hmode⟩ := hm
  obtain ⟨r, e⟩ := he
  have hmode' : (u.withRecord r).cp.excMode = true := (congrArg Coprocessor.excMode hunit).trans hmode
  obtain ⟨v, ev⟩ := cpEnds_inMode hmode' data ready
  rw [cpMemory_launches hec hcp hpend ha, e, ev]
  exact ⟨_, rfl, keepsCpMode_of (congrArg (cpKeepsMode · v) hunit), rfl, .of_record rfl⟩

end CpAccess

/-- STDCQ with the coprocessor on, in supervisor mode and at an aligned address, stores from the queue. -/
theorem exec_stdcq_on {s : State} {rs1 : Reg} {o2 : Operand2} (hs : s.psr.s = true) (hon : ¬ s.cpOff)
    (ha : (effectiveAddress rs1 o2 s).extractLsb' 0 3 = 0#3) :
    exec (.stdcq rs1 o2) s = storeCpQueue (effectiveAddress rs1 o2 s) s :=
  (privileged_of_supervisor hs _).trans
    ((withCp_of_on hon _).trans (whenAligned_of_aligned (aligned_double_of ha) _ s))

theorem dropCpQueue_eq (s : State) :
    dropCpQueue s = { s.advance with
      cpCompare := s.cpCompare
      cp := { s.cp with queue := s.cp.queue.tail, excMode := s.cp.excMode && !s.cp.queue.tail.isEmpty } } := rfl

/-- The front entry of the queue is stored and leaves it, whatever mode the coprocessor is in (R178). -/
theorem storeCpQueue_stores {s : State} {a : Word} (hu : s.undisturbed) (hk : s.writable s.dataAsi a)
    (hk' : s.writable s.dataAsi (a + 4#32)) (ha : a.extractLsb' 0 3 = 0#3) {addr instr : Word}
    {rest : List (Word × Word)} (hq : s.cp.queue = (addr, instr) :: rest) :
    ∃ t, storeCpQueue a s = .next t ∧ Stores t s s.dataAsi a (bytesBE addr ++ bytesBE instr)
      ∧ Agree t { s.ended with
          cpCompare := s.cpCompare
          mem := t.mem, cp := { s.cp with queue := rest, excMode := s.cp.excMode && !rest.isEmpty } } := by
  obtain ⟨r, e⟩ := storeTwo_completes (s := s.emit (.launchCp s.ir s.pc)) hu hk hk' addr instr dropCpQueue
  rw [dropCpQueue_eq] at e
  have hstore : storeCpQueue a s = storeTwo s.dataAsi a addr instr dropCpQueue (s.emit (.launchCp s.ir s.pc)) := by
    rw [storeCpQueue, hq]
  obtain rfl : s.cp.queue.tail = rest := by rw [hq]; rfl
  exact ⟨_, hstore.trans e, stores_storing (distinctCells_double _ _ ha) rfl, .of_record rfl⟩

/-- With an empty queue there is nothing to store, and the model refuses as the spec does (I20, log 13). -/
theorem storeCpQueue_empty {s : State} (hq : s.cp.queue = []) (a : Word) :
    storeCpQueue a s = .refused .cpQueueEmpty := by
  rw [storeCpQueue, hq]

/-- Settles O56: each load and store is a completed access, which ends by the coprocessor's being ready or in
exception mode. -/
theorem cpLoadsAndStores : Obligations.CpLoadsAndStores := by
  intro s rd rs1 o2 hu ea asi
  have hload (hk : s.readable asi ea) (finish : Word → State → State) :
      ∃ r, loadOne .word asi ea finish (s.emit (.launchCp s.ir s.pc))
        = .next (finish (s.wordAt asi ea) (s.withRecord r)) :=
    loadOne_completes (s := s.emit (.launchCp s.ir s.pc)) hu hk finish
  have hpair (hk : s.readable asi ea) (hk' : s.readable asi (ea + 4#32)) (finish : Word → Word → State → State) :
      ∃ r, loadTwo asi ea (cpPairRefused rd) finish (s.emit (.launchCp s.ir s.pc))
        = .next (finish (s.wordAt asi ea) (s.wordAt asi (ea + 4#32)) (s.withRecord r)) :=
    loadTwo_completes (s := s.emit (.launchCp s.ir s.pc)) hu hk hk' (cpPairRefused rd) finish
  have hstore (hk : s.writable asi ea) (v : Word) :
      ∃ r, storeOne .word asi ea v (cpEnds [] State.advanceCp) (s.emit (.launchCp s.ir s.pc))
        = .next (cpEnds [] State.advanceCp ((s.storing asi ea (bytesBE v)).withRecord r)) :=
    storeOne_completes (s := s.emit (.launchCp s.ir s.pc)) hu hk v _
  have hstores (hk : s.writable asi ea) (hk' : s.writable asi (ea + 4#32)) (hi lo : Word) :
      ∃ r, storeTwo asi ea hi lo (cpEnds [] State.advanceCp) (s.emit (.launchCp s.ir s.pc))
        = .next (cpEnds [] State.advanceCp ((s.storing asi ea (bytesBE hi ++ bytesBE lo)).withRecord r)) :=
    storeTwo_completes (s := s.emit (.launchCp s.ir s.pc)) hu hk hk' hi lo _
  refine ⟨codeOf_withCode _ _ _, fun hr hk ha => ⟨?_, ?_⟩, fun hr hk hk' ha => ?_, fun hr hk ha => ⟨?_, ?_⟩,
    fun hr hk hk' ha => ?_, fun hs hon hk hk' ha _ _ _ hq => ?_,
    fun hs hon ha hq => (exec_stdcq_on hs hon ha).trans (storeCpQueue_empty hq _),
    fun hm => ⟨fun i hi => ?_, fun i hk ha hi => ?_, fun hk hk' ha => ?_⟩⟩
  · obtain ⟨r, e⟩ := cpMemory_ready hr (aligned_word_of ha) (hload hk fun v => cpEnds [v] (putCreg rd v)) rfl
    exact ⟨_, e, putCreg_writesC rd _ _, .of_record rfl⟩
  · obtain ⟨r, e⟩ := cpMemory_ready hr (aligned_word_of ha) (hload hk fun v => cpEnds [v] (putCsr v)) rfl
    exact ⟨_, e, .of_record rfl⟩
  · obtain ⟨r, e⟩ := cpMemory_ready hr (aligned_double_of ha)
      (hpair hk hk' fun hi lo => cpEnds [hi, lo] (putCregPair rd hi lo)) rfl
    exact ⟨_, e, putCregPair_writesC rd _ _ _, .of_record rfl⟩
  · obtain ⟨r, e⟩ := cpMemory_ready hr (aligned_word_of ha) (hstore hk (s.cpSupplies 0 (s.creg rd))) rfl
    rw [← cpSupplies_ready hr 0 (s.creg rd)]
    exact ⟨_, e, stores_storing (distinctCells_word _ _ ha) rfl, .of_record rfl⟩
  · obtain ⟨r, e⟩ := cpMemory_ready hr (aligned_word_of ha) (hstore hk (s.cpSupplies 0 (csrWord s.cp))) rfl
    rw [← cpSupplies_ready hr 0 (csrWord s.cp)]
    exact ⟨_, e, stores_storing (distinctCells_word _ _ ha) rfl, .of_record rfl⟩
  · obtain ⟨r, e⟩ := cpMemory_ready hr (aligned_double_of ha)
      (hstores hk hk' (s.cpSupplies 0 (s.creg (evenReg rd))) (s.cpSupplies 1 (s.creg (oddReg rd)))) rfl
    rw [← cpSupplies_ready hr 0 (s.creg (rd &&& 30#5)), ← cpSupplies_ready hr 1 (s.creg (rd ||| 1#5))]
    exact ⟨_, e, stores_storing (distinctCells_double _ _ ha) rfl, .of_record rfl⟩
  · rw [exec_stdcq_on hs hon ha]
    exact storeCpQueue_stores hu hk hk' ha hq
  · rcases hi with ⟨hk, ha, rfl | rfl⟩ | ⟨hk, hk', ha, rfl⟩
    · obtain ⟨t, e, hkeeps, _, hagree⟩ :=
        cpMemory_inMode hm (aligned_word_of ha) (hload hk fun v => cpEnds [v] (putCreg rd v)) rfl
      exact ⟨t, e, hkeeps, hagree⟩
    · obtain ⟨t, e, hkeeps, _, hagree⟩ :=
        cpMemory_inMode hm (aligned_word_of ha) (hload hk fun v => cpEnds [v] (putCsr v)) rfl
      exact ⟨t, e, hkeeps, hagree⟩
    · obtain ⟨t, e, hkeeps, _, hagree⟩ := cpMemory_inMode hm (aligned_double_of ha)
        (hpair hk hk' fun hi lo => cpEnds [hi, lo] (putCregPair rd hi lo)) rfl
      exact ⟨t, e, hkeeps, hagree⟩
  · have hstf (v : Word) := cpMemory_inMode hm (aligned_word_of ha) (hstore hk v) rfl
    rcases hi with rfl | rfl
    · obtain ⟨t, e, hkeeps, hmem, hagree⟩ := hstf (s.cpSupplies 0 (s.creg rd))
      exact ⟨t, _, e, hkeeps, stores_storing (distinctCells_word _ _ ha) hmem, by rw [hmem]; exact hagree⟩
    · obtain ⟨t, e, hkeeps, hmem, hagree⟩ := hstf (s.cpSupplies 0 (csrWord s.cp))
      exact ⟨t, _, e, hkeeps, stores_storing (distinctCells_word _ _ ha) hmem, by rw [hmem]; exact hagree⟩
  · obtain ⟨t, e, hkeeps, hmem, hagree⟩ := cpMemory_inMode hm (aligned_double_of ha)
      (hstores hk hk' (s.cpSupplies 0 (s.creg (evenReg rd))) (s.cpSupplies 1 (s.creg (oddReg rd)))) rfl
    exact ⟨t, _, _, e, hkeeps, stores_storing (distinctCells_double _ _ ha) hmem, by rw [hmem]; exact hagree⟩


end Sys2Proof.Machine
end

section
/-! PROOF. The operations of the two units (O57, O58): the FPops and CPops launched by a ready unit and in exception mode. -/

namespace Sys2Proof.Machine

/-! ### Writing the registers of a result -/

theorem operandGroup_nodup (p : Precision) (r : Reg) : (operandGroup p r).Nodup := by
  cases p <;> revert r <;> decide

/-- Writing a list of different registers puts word `k + n` into the n-th of them. -/
theorem freg_setFregs {value : Nat → Word} {rs : List Reg} (hrs : rs.Nodup) (k : Nat) (s : State) (r : Reg) :
    (setFregs value k rs s).freg r = if r ∈ rs then value (k + rs.idxOf r) else s.freg r := by
  induction rs generalizing k s with
  | nil => rfl
  | cons x xs ih =>
    obtain ⟨hx, hxs⟩ := List.nodup_cons.1 hrs
    rw [setFregs, ih hxs, freg_setFreg]
    by_cases hr : r = x
    · subst hr
      simp [hx]
    · simp [hr, List.idxOf_cons_ne _ (Ne.symm hr), Nat.add_assoc, Nat.add_comm 1]

/-- Writing a result writes the group of its destination, the most significant word first. -/
theorem setFregs_writesF (value : Nat → Word) (p : Precision) (rd : Reg) (s : State) :
    WritesF (setFregs value 0 (operandGroup p rd) s) s (operandGroup p rd)
      fun r => value ((operandGroup p rd).idxOf r) := fun r => by
  rw [freg_setFregs (operandGroup_nodup p rd), Nat.zero_add]

/-- `t` differs from `s` in f registers only. -/
def OnlyF (t s : State) : Prop := ∃ f, t = { s with fpu := { s.fpu with f := f } }

theorem setFreg_onlyF (s : State) (r : Reg) (v : Word) : OnlyF (s.setFreg r v) s := ⟨_, rfl⟩

theorem setFregs_onlyF (value : Nat → Word) (k : Nat) (rs : List Reg) (s : State) : OnlyF (setFregs value k rs s) s := by
  induction rs generalizing k s with
  | nil => exact ⟨s.fpu.f, rfl⟩
  | cons r rs ih =>
    obtain ⟨f, e⟩ := ih (k + 1) (s.setFreg r (value k))
    exact ⟨f, e⟩

/-! ### FPops with a ready FPU (R302, R306) -/

/-- The state a ready FPU leaves that detects an exception: the instruction waits in the queue, its exception pending. -/
def State.fpFaulted (s : State) : State :=
  { s.ended with fpu := { s.fpu with
      queue := s.fpu.queue ++ [(s.pc, s.ir)], excPending := true, fsr := Config.fsrAfterException s.ir (fsrWord s.fpu) } }

theorem fpuRaises_agree (s : State) (e : Event) : Agree (s.emit e).fpuRaises.advance s.fpFaulted := .of_record rfl

section FpopReady

variable {s : State} {opf : BitVec 9} {a b : List Word} {effect : State → State}

/-- A ready FPU executes the operation at its launch. -/
theorem withFp_ready (hr : s.fpReady) (ready : State → State) :
    withFp (launchFp fun s => .next (fpEnds [] ready s)) s = .next (ready (s.emit (.launchFp s.ir s.pc))) := by
  obtain ⟨hef, hfp, hpend, hmode⟩ := hr
  rw [withFp_of_on (fpOn hef hfp), launchFp_idle hpend, fpEnds_ready (s := s.emit (.launchFp s.ir s.pc)) hmode]

theorem fpop_raises (hr : s.fpReady) (h : Config.fpRaises opf a b (fsrWord s.fpu) = true) :
    EndsAs (fpop opf a b effect s) s.fpFaulted :=
  ⟨_, (withFp_ready hr _).trans (congrArg _ (if_pos h)), fpuRaises_agree s _⟩

theorem fpop_completes (hr : s.fpReady) (h : ¬ Config.fpRaises opf a b (fsrWord s.fpu) = true) :
    ∃ u, u = effect (s.emit (.launchFp s.ir s.pc)) ∧ fpop opf a b effect s
      = .next { u with fpu := { u.fpu with fsr := Config.fsrAfterFpop opf a b (fsrWord s.fpu) } }.advance :=
  ⟨_, rfl, (withFp_ready hr _).trans (congrArg _ (if_neg h))⟩

/-- An FPop whose effect is to write `v` to the registers `dest`. -/
theorem fpop_writesF {dest : List Reg} {v : Reg → Word} (hr : s.fpReady)
    (hw : ∀ u, u.freg = s.freg → WritesF (effect u) s dest v) (honly : ∀ u, OnlyF (effect u) u) :
    if Config.fpRaises opf a b (fsrWord s.fpu) then EndsAs (fpop opf a b effect s) s.fpFaulted
    else ∃ t, fpop opf a b effect s = .next t ∧ WritesF t s dest v
      ∧ Agree t { s.ended with fpu := { s.fpu with f := t.fpu.f, fsr := Config.fsrAfterFpop opf a b (fsrWord s.fpu) } } := by
  split
  next h => exact fpop_raises hr h
  next h =>
    obtain ⟨u, hu, e⟩ := fpop_completes (effect := effect) hr h
    have hwrites : WritesF u s dest v := hu ▸ hw _ rfl
    obtain ⟨f, hf⟩ := honly (s.emit (.launchFp s.ir s.pc))
    obtain rfl := hu.trans hf
    exact ⟨_, e, hwrites, .of_record rfl⟩

end FpopReady

theorem fpCompute_computes {i : Instr} {opf : BitVec 9} {p : Precision} {rd : Reg} {a b : List Reg}
    (hi : ∀ s, exec i s = fpCompute opf p rd (a.map s.freg) (b.map s.freg) s) :
    FpComputes i opf a b (operandGroup p rd) := by
  intro s hr
  rw [hi]
  exact fpop_writesF hr (fun u hu => by rw [WritesF, ← hu]; exact setFregs_writesF _ p rd u)
    fun u => setFregs_onlyF _ _ _ u

theorem fpCopy_copies {i : Instr} {opf : BitVec 9} {rd rs2 : Reg} {g : Word → Word}
    (hi : ∀ s, exec i s = fpCopy opf rd [s.freg rs2] (g (s.freg rs2)) s) : FpCopies i opf rd rs2 g := by
  intro s hr
  rw [hi]
  exact fpop_writesF hr (fun u hu => by rw [WritesF, ← hu]; exact putFreg_writesF rd _ u)
    fun u => setFreg_onlyF u rd _

theorem fpCompare_compares {i : Instr} {opf : BitVec 9} {p : Precision} {rs1 rs2 : Reg}
    (hi : ∀ s, exec i s = fpCompare opf p rs1 rs2 s) :
    FpCompares i opf (operandGroup p rs1) (operandGroup p rs2) := by
  intro s hr a b
  rw [hi]
  split
  next h => exact fpop_raises hr h
  next h =>
    obtain ⟨u, rfl, e⟩ := fpop_completes hr h
    exact ⟨_, e, .of_record rfl⟩

/-- Settles O57: every named FPop is a copy, a computation on operand groups, or a compare. -/
theorem fpOperations : Obligations.FpOperations := by
  intro rd rs1 rs2
  have single {i opf} {a b : List Reg} (hi : ∀ s, exec i s = fpCompute opf .single rd (a.map s.freg) (b.map s.freg) s) :
      FpComputes i opf a b [rd] := fpCompute_computes hi
  have double {i opf} {a b : List Reg} (hi : ∀ s, exec i s = fpCompute opf .double rd (a.map s.freg) (b.map s.freg) s) :
      FpComputes i opf a b (doubleGroup rd) := fpCompute_computes hi
  have extended {i opf} {a b : List Reg}
      (hi : ∀ s, exec i s = fpCompute opf .extended rd (a.map s.freg) (b.map s.freg) s) :
      FpComputes i opf a b (quadGroup rd) := fpCompute_computes hi
  exact ⟨fpCopy_copies fun _ => rfl, fpCopy_copies fun _ => rfl, fpCopy_copies fun _ => rfl, single fun _ => rfl,
    double fun _ => rfl, extended fun _ => rfl, single fun _ => rfl, double fun _ => rfl, extended fun _ => rfl,
    single fun _ => rfl, double fun _ => rfl, extended fun _ => rfl, single fun _ => rfl, double fun _ => rfl,
    extended fun _ => rfl, single fun _ => rfl, double fun _ => rfl, extended fun _ => rfl, single fun _ => rfl,
    single fun _ => rfl, single fun _ => rfl, double fun _ => rfl, double fun _ => rfl, double fun _ => rfl,
    extended fun _ => rfl, extended fun _ => rfl, extended fun _ => rfl, single fun _ => rfl, single fun _ => rfl,
    single fun _ => rfl, fpCompare_compares (p := .single) fun _ => rfl,
    fpCompare_compares (p := .double) fun _ => rfl, fpCompare_compares (p := .extended) fun _ => rfl,
    fpCompare_compares (p := .single) fun _ => rfl, fpCompare_compares (p := .double) fun _ => rfl,
    fpCompare_compares (p := .extended) fun _ => rfl⟩

/-! ### CPops with a ready coprocessor (R307 to R309) -/

/-- The end of a CPop with a ready coprocessor. -/
def cpopReady (second : Bool) (rd rs1 : Reg) (opc : BitVec 9) (rs2 : Reg) (s : State) : State :=
  if Config.cpopRaises second opc rd rs1 rs2 s.pc s.cp then s.cpRaises.advanceCp
  else { s with cp := cpOperated s.cp (Config.cpopEffect second opc rd rs1 rs2 s.pc s.cp) }.advanceCp

/-- An enabled coprocessor without a pending exception launches the CPop. -/
theorem cpop_launches {s : State} (hec : s.psr.ec = true) (hcp : s.cfg.cpPresent = true) (hpend : s.cp.excPending = false)
    (second : Bool) (rd rs1 : Reg) (opc : BitVec 9) (rs2 : Reg) :
    cpop second rd rs1 opc rs2 s
      = .next { cpEnds [] (cpopReady second rd rs1 opc rs2) (s.emit (.launchCp s.ir s.pc)) with
          cpCompare := Config.cpopIsCompare second opc || s.cpCompare } :=
  (withCp_of_on (cpOn hec hcp) _).trans (launchCp_idle hpend _)

theorem cpop_runs {s : State} (hr : s.cpReady) (second : Bool) (opc : BitVec 9) (rd rs1 rs2 : Reg) {i : Instr}
    (hi : exec i s = cpop second rd rs1 opc rs2 s) : CpopRuns i s second opc rd rs1 rs2 := by
  obtain ⟨hec, hcp, hpend, hmode⟩ := hr
  have hrun := hi.trans (cpop_launches hec hcp hpend second rd rs1 opc rs2)
  rw [cpEnds_ready (s := s.emit (.launchCp s.ir s.pc)) hmode] at hrun
  unfold CpopRuns
  intro v ends
  split
  next h =>
    have hends : cpopReady second rd rs1 opc rs2 (s.emit (.launchCp s.ir s.pc))
        = (s.emit (.launchCp s.ir s.pc)).cpRaises.advanceCp := if_pos h
    rw [hends] at hrun
    exact ⟨_, hrun, .of_record rfl⟩
  next h =>
    have hends : cpopReady second rd rs1 opc rs2 (s.emit (.launchCp s.ir s.pc))
        = { s.emit (.launchCp s.ir s.pc) with cp := cpOperated s.cp v }.advanceCp := if_neg h
    rw [hends] at hrun
    exact ⟨_, hrun, .of_record rfl⟩

/-! ### Exception mode (R306, R309) -/

/-- Every FPop, named or not, is launched by an enabled FPU and ends by the FPU's answer. -/
theorem exec_fpopForms_ends {rd rs1 rs2 : Reg} {opf : BitVec 9} {i : Instr} (h : i ∈ fpopForms rd rs1 rs2 opf)
    (s : State) : ∃ ready, exec i s = withFp (launchFp fun u => .next (fpEnds [] ready u)) s := by
  revert i
  simp only [fpopForms, List.forall_mem_cons, List.not_mem_nil, false_implies, implies_true, and_true]
  and_intros <;> exact ⟨_, rfl⟩

/-- In exception mode an FPop is launched, and the FPU keeps its mode and queue. -/
theorem fpop_inMode {s : State} (hm : s.fpInExceptionMode) (ready : State → State) :
    ∃ t, withFp (launchFp fun u => .next (fpEnds [] ready u)) s = .next t
      ∧ t.events = s.events ++ [.launchFp s.ir s.pc] ∧ KeepsFpMode t s ∧ Agree t { s.ended with fpu := t.fpu } := by
  obtain ⟨hef, hfp, hpend, hmode⟩ := hm
  obtain ⟨v, e⟩ := fpEnds_inMode (s := s.emit (.launchFp s.ir s.pc)) hmode [] ready
  rw [withFp_of_on (fpOn hef hfp), launchFp_idle hpend, e]
  exact ⟨_, rfl, rfl, keepsFpMode_of rfl, .of_record rfl⟩

/-- The same for a CPop. -/
theorem cpop_inMode {s : State} (hm : s.cpInExceptionMode) (second : Bool) (rd rs1 : Reg) (opc : BitVec 9) (rs2 : Reg) :
    ∃ t, cpop second rd rs1 opc rs2 s = .next t ∧ t.events = s.events ++ [.launchCp s.ir s.pc]
      ∧ KeepsCpMode t s ∧ Agree t { s.ended with cp := t.cp, cpCompare := t.cpCompare } := by
  obtain ⟨hec, hcp, hpend, hmode⟩ := hm
  obtain ⟨v, e⟩ := cpEnds_inMode (s := s.emit (.launchCp s.ir s.pc)) hmode [] (cpopReady second rd rs1 opc rs2)
  rw [cpop_launches hec hcp hpend, e]
  exact ⟨_, rfl, rfl, keepsCpMode_of rfl, .of_record rfl⟩

/-- Settles O58: each operation runs on a ready unit, and in exception mode is launched and keeps that mode. -/
theorem unassignedFpopAndCpops : Obligations.UnassignedFpopAndCpops := by
  refine ⟨fun s rd rs1 rs2 opf hr i hi => ?_,
    fun s rd rs1 rs2 opc hr => ⟨cpop_runs hr _ _ _ _ _ rfl, cpop_runs hr _ _ _ _ _ rfl⟩,
    fun s rd rs1 rs2 opf hm i hi => ?_, fun s rd rs1 rs2 opc hm i hi => ?_⟩
  · simp only [List.mem_cons, List.not_mem_nil, or_false] at hi
    rcases hi with rfl | rfl <;> exact ⟨_, withFp_ready hr _, fpuRaises_agree s _⟩
  · obtain ⟨ready, e⟩ := exec_fpopForms_ends hi s
    rw [e]
    exact fpop_inMode hm ready
  · simp only [List.mem_cons, List.not_mem_nil, or_false] at hi
    rcases hi with rfl | rfl
    · exact cpop_inMode hm false rd rs1 opc rs2
    · exact cpop_inMode hm true rd rs1 opc rs2

end Sys2Proof.Machine
end

section
/-! PROOF. Integer stores and atomics that storage takes, of the ordinary (O35, O36) and of an alternate space (O37), and
the parts of a stored word read back (O43). -/

namespace Sys2Proof.Machine

/-! ### The bytes of an aligned access -/

theorem aligned_half_of {a : Word} (h : a.extractLsb' 0 1 = 0#1) : aligned .half a = true := by simp [aligned, h]

/-- The bytes of an aligned access have different cells. -/
theorem distinctCells_of_aligned (p : List Region) (asi : Asi) {z : AccessSize} {a : Word} (h : aligned z a = true)
    (v : Word) : DistinctCells p asi a (storedBytes z v).length := by
  rw [storedBytes_length]
  cases z with
  | byte =>
    refine distinctCells_of_block (by decide) fun i hi => ?_
    obtain rfl : i = 0 := Nat.lt_one_iff.1 hi
    rw [BitVec.add_zero]
  | half => exact distinctCells_of_block (by decide) fun _ => block_add_half (beq_iff_eq.1 h)
  | word => exact distinctCells_word p asi (beq_iff_eq.1 h)
  | double => exact distinctCells_of_block (by decide) fun _ hi => block_add (beq_iff_eq.1 h) (Nat.lt_trans hi (by decide))

/-! ### Stores that storage takes (R123) -/

section Storage

variable {z : AccessSize} {asi : Asi} {a : Word} {s : State}

/-- A store of one access ends in `s` with the bytes stored, but for the record. -/
theorem storeOne_storing (hu : s.undisturbed) (hk : s.writable asi a) (v : Word) (finish : State → State) :
    ∃ r, storeOne z asi a v finish s = .next (finish ((s.storing asi a (storedBytes z v)).withRecord r)) := by
  rw [storeOne, busWrite_ram (nextAnswer_of_undisturbed hu) hk, andThen_ok]
  exact ⟨_, congrArg (fun u => (Host.Outcome.next (finish u) : Result)) (withRecord_of_visible (by simp)).symm⟩

theorem storeReg_endsStoring (hu : s.undisturbed) (hk : s.writable asi a) (ha : aligned z a = true) (rd : Reg) :
    EndsStoring (storeReg z asi a rd s) s asi a (storedBytes z (s.reg rd)) := by
  obtain ⟨r, e⟩ := storeOne_storing hu hk (s.reg rd) State.advance
  rw [storeReg, whenAligned_of_aligned ha, e]
  exact ⟨_, rfl, stores_storing (distinctCells_of_aligned _ _ ha _) rfl, .of_record rfl⟩

theorem storePair_endsStoring (hu : s.undisturbed) (hk : s.writable asi a) (hk' : s.writable asi (a + 4#32))
    (ha : a.extractLsb' 0 3 = 0#3) (rd : Reg) :
    EndsStoring (storePair asi a rd s) s asi a (bytesBE (s.reg (rd &&& 30#5)) ++ bytesBE (s.reg (rd ||| 1#5))) := by
  obtain ⟨r, e⟩ := storeTwo_completes hu hk hk' (s.reg (evenReg rd)) (s.reg (oddReg rd)) State.advance
  rw [storePair, whenAligned_of_aligned (aligned_double_of ha), e]
  exact ⟨_, rfl, stores_storing (distinctCells_double _ _ ha) rfl, .of_record rfl⟩

/-! ### Atomics that storage takes (R137, R138) -/

/-- Both accesses of an atomic complete: it finds the old value, and ends in `s` with the new one stored. -/
theorem loadStore_storage (hu : s.undisturbed) (hk : s.writable asi a) (v : Word) (finish : Word → State → State) :
    loadStore z asi a v finish s = .next (finish (readValue s.platform s.mem asi a z)
      (((s.popAnswer.emit (readCycle asi a z true true)).popAnswer.emit (writeCycle asi a z v true)).storeBytes
        asi a z v)) := by
  have hnext : (s.popAnswer.emit (readCycle asi a z true true)).nextAnswer = .ready :=
    nextAnswer_of_undisturbed (undisturbed_popAnswer hu)
  rw [loadStore, busRead_storage (nextAnswer_of_undisturbed hu) hu.2 (.inl hk), andThen_ok, busWrite_ram hnext hk,
    andThen_ok]

theorem putReg_mem (rd : Reg) (v : Word) (s : State) : (putReg rd v s).mem = s.mem := by simp [putReg]

theorem putReg_events (rd : Reg) (v : Word) (s : State) : (putReg rd v s).events = s.events := by simp [putReg]

theorem mem_of_visible {t u : State} (h : t.visible = u.visible) : t.mem = u.mem :=
  show t.visible.mem = u.visible.mem by rw [h]

/-- An atomic ends by writing r[rd] in a state like `s` with its bytes stored, but for the record. -/
theorem putReg_endsSwapping {bs : List Byte} {u : State} (rd : Reg) (old : Word)
    (hd : DistinctCells s.platform asi a bs.length) (h : u.visible = (s.storing asi a bs).visible) :
    EndsSwapping (.next (putReg rd old u)) s rd old asi a bs := by
  obtain ⟨t, e, hregs, hagree⟩ := putReg_endsWith (s := s.storing asi a bs) (psr := s.psr) (y := s.y) rd old h
  cases e
  have hmem : (putReg rd old u).mem = (s.storing asi a bs).mem := (putReg_mem rd old u).trans (mem_of_visible h)
  refine ⟨_, rfl, hregs, stores_storing hd hmem, ?_⟩
  rw [hmem]
  exact hagree

theorem loadStore_endsSwapping (hu : s.undisturbed) (hk : s.writable asi a) (ha : aligned z a = true) (rd : Reg)
    (v : Word) : EndsSwapping (loadStore z asi a v (putReg rd) s) s rd (readValue s.platform s.mem asi a z) asi a
      (storedBytes z v) := by
  rw [loadStore_storage hu hk]
  exact putReg_endsSwapping rd _ (distinctCells_of_aligned _ _ ha _) (by simp)

theorem loadStoreByte_endsSwapping (hu : s.undisturbed) (hk : s.writable asi a) (rd : Reg) :
    EndsSwapping (loadStoreByte asi a rd s) s rd ((s.byteAt asi a 0).setWidth 32) asi a [0xFF#8] :=
  loadStore_endsSwapping (z := .byte) hu hk rfl rd 0xFF#32

theorem swapWord_endsSwapping (hu : s.undisturbed) (hk : s.writable asi a) (ha : a.extractLsb' 0 2 = 0#2) (rd : Reg) :
    EndsSwapping (swapWord asi a rd s) s rd (s.wordAt asi a) asi a (bytesBE (s.reg rd)) := by
  rw [swapWord, whenAligned_of_aligned (aligned_word_of ha)]
  exact loadStore_endsSwapping (z := .word) hu hk (aligned_word_of ha) rd _

/-- The two transactions of an atomic, adjacent on the bus (R83). -/
theorem loadStore_transactions (hu : s.undisturbed) (hk : s.writable asi a) (v : Word) (rd : Reg) :
    ∃ t, loadStore z asi a v (putReg rd) s = .next t
      ∧ t.events = s.events ++ [readCycle asi a z true true, writeCycle asi a z v true] := by
  refine ⟨_, loadStore_storage hu hk v (putReg rd), ?_⟩
  simp [putReg_events]

end Storage

/-- Settles O35. -/
theorem integerStores : Obligations.IntegerStores := fun _ rd _ _ hu hk =>
  ⟨storeReg_endsStoring (z := .byte) hu hk rfl rd, fun ha => storeReg_endsStoring hu hk (aligned_half_of ha) rd,
    fun ha => storeReg_endsStoring hu hk (aligned_word_of ha) rd, fun ha hk' => storePair_endsStoring hu hk hk' ha rd⟩

/-- Settles O36: both atomics are a read and a write of one place with LOCK and LDSTO. -/
theorem integerAtomics : Obligations.IntegerAtomics := by
  intro s rd rs1 o2 hu hk ea
  refine ⟨loadStoreByte_endsSwapping hu hk rd, fun ha => swapWord_endsSwapping hu hk ha rd, fun i hi => ?_⟩
  have shape : ∃ z v, exec i s = loadStore z s.dataAsi ea v (putReg rd) s := by
    rcases hi with rfl | ⟨rfl, ha⟩
    · exact ⟨.byte, _, rfl⟩
    · exact ⟨.word, _, whenAligned_of_aligned (aligned_word_of ha) _ s⟩
  obtain ⟨z, v, e⟩ := shape
  obtain ⟨t, et, hevents⟩ := loadStore_transactions (z := z) hu hk v rd
  exact ⟨t, _, _, e.trans et, hevents, rfl, rfl, rfl, rfl, rfl, rfl, rfl, rfl⟩

/-! ### Alternate space (R139) -/

section Loads

variable {asi : Asi} {a : Word} {s : State}

theorem loadReg_signedByte (hu : s.undisturbed) (hk : s.readable asi a) (rd : Reg) :
    EndsWith (loadReg .byte asi a (fun v => putReg rd (sextByte v)) s) s rd ((s.byteAt asi a 0).signExtend 32) s.psr
      s.y := by
  rw [← sextByte_setWidth]
  exact loadReg_endsWith hu hk (z := .byte) rfl rd sextByte

theorem loadReg_signedHalf (hu : s.undisturbed) (hk : s.readable asi a) (ha : a.extractLsb' 0 1 = 0#1) (rd : Reg) :
    EndsWith (loadReg .half asi a (fun v => putReg rd (sextHalf v)) s) s rd
      ((s.byteAt asi a 0 ++ s.byteAt asi a 1).signExtend 32) s.psr s.y := by
  rw [← sextHalf_setWidth]
  exact loadReg_endsWith hu hk (aligned_half_of ha) rd sextHalf

theorem loadPair_endsWithPair (hu : s.undisturbed) (hk : s.readable asi a) (hk' : s.readable asi (a + 4#32))
    (ha : a.extractLsb' 0 3 = 0#3) (rd : Reg) :
    EndsWithPair (loadPair asi a rd s) s rd (s.wordAt asi a) (s.wordAt asi (a + 4#32)) := by
  rw [loadPair, whenAligned_of_aligned (aligned_double_of ha), loadTwo_storage hu hk hk', readValue_double,
    readValue_double]
  exact putPair_endsWithPair rd _ _ (by simp)

end Loads

/-- In supervisor mode a privileged instruction does what it does unguarded. -/
theorem privileged_intro {P : Result → Prop} {k : State → Result} {s : State} (hs : s.psr.s = true) (h : P (k s)) :
    P (privileged k s) := by
  rwa [privileged_of_supervisor hs]

/-- Settles O37: behind the check of the mode each instruction is its ordinary form at another address and ASI. -/
theorem alternateSpaceAccesses : Obligations.AlternateSpaceAccesses := by
  intro s rd rs1 rs2 asi hs hu ea
  refine ⟨fun hk => ⟨?_, ?_, fun ha => ?_, fun ha => ?_, fun ha => ?_, fun ha hk' => ?_⟩,
    fun hk => ⟨?_, fun ha => ?_, fun ha => ?_, fun ha hk' => ?_, ?_, fun ha => ?_⟩⟩
  · exact privileged_intro (P := (EndsWith · s rd _ _ _)) hs (loadReg_signedByte hu hk rd)
  · exact privileged_intro (P := (EndsWith · s rd _ _ _)) hs (loadReg_endsWith (z := .byte) hu hk rfl rd id)
  · exact privileged_intro (P := (EndsWith · s rd _ _ _)) hs (loadReg_signedHalf hu hk ha rd)
  · exact privileged_intro (P := (EndsWith · s rd _ _ _)) hs (loadReg_endsWith hu hk (aligned_half_of ha) rd id)
  · exact privileged_intro (P := (EndsWith · s rd _ _ _)) hs (loadReg_endsWith hu hk (aligned_word_of ha) rd id)
  · exact privileged_intro (P := (EndsWithPair · s rd _ _)) hs (loadPair_endsWithPair hu hk hk' ha rd)
  · exact privileged_intro (P := (EndsStoring · s asi ea _)) hs (storeReg_endsStoring (z := .byte) hu hk rfl rd)
  · exact privileged_intro (P := (EndsStoring · s asi ea _)) hs (storeReg_endsStoring hu hk (aligned_half_of ha) rd)
  · exact privileged_intro (P := (EndsStoring · s asi ea _)) hs (storeReg_endsStoring hu hk (aligned_word_of ha) rd)
  · exact privileged_intro (P := (EndsStoring · s asi ea _)) hs (storePair_endsStoring hu hk hk' ha rd)
  · exact privileged_intro (P := (EndsSwapping · s rd _ asi ea _)) hs (loadStoreByte_endsSwapping hu hk rd)
  · exact privileged_intro (P := (EndsSwapping · s rd _ asi ea _)) hs (swapWord_endsSwapping hu hk ha rd)

/-! ### A stored word read back (R60, R62) -/

/-- A field of a word, zero-extended, is the word shifted and masked. -/
theorem setWidth_extractLsb' (v : Word) (k n : Nat) :
    (v.extractLsb' k n).setWidth 32 = (v >>> k) &&& BitVec.ofNat 32 (2 ^ n - 1) := by
  apply BitVec.eq_of_getLsbD_eq
  intro i hi
  rw [BitVec.getLsbD_and, BitVec.getLsbD_ofNat, Nat.testBit_two_pow_sub_one]
  simp [hi, Bool.and_comm]

theorem setWidth_byte (v : Word) (k : Nat) : (v.extractLsb' k 8).setWidth 32 = (v >>> k) &&& 0xFF#32 :=
  setWidth_extractLsb' v k 8

theorem setWidth_half (v : Word) (k : Nat) : (v.extractLsb' k 16).setWidth 32 = (v >>> k) &&& 0xFFFF#32 :=
  setWidth_extractLsb' v k 16

/-- Whether a state is undisturbed depends on its pins and its configuration. -/
theorem undisturbed_congr {s t : State} (hc : t.cfg = s.cfg) (hp : t.pins = s.pins) (h : s.undisturbed) :
    t.undisturbed := by
  simpa [State.undisturbed, State.loadSuspect, State.badLoadParity, hc, hp] using h

theorem dataAsi_congr {s t : State} (h : t.psr = s.psr) : t.dataAsi = s.dataAsi := by rw [State.dataAsi, h, State.dataAsi]

/-- A word store that storage takes leaves the word in memory, and an undisturbed step as undisturbed as it was. -/
theorem exec_st_stores {s t : State} {rd rs1 : Reg} {o2 : Operand2} (hu : s.undisturbed)
    (hk : s.writable s.dataAsi (effectiveAddress rs1 o2 s)) (ha : (effectiveAddress rs1 o2 s).extractLsb' 0 2 = 0#2)
    (h : exec (.st rd rs1 o2) s = .next t) :
    t.undisturbed ∧ t.platform = s.platform ∧ t.dataAsi = s.dataAsi
      ∧ Stores t s s.dataAsi (effectiveAddress rs1 o2 s) (bytesBE (s.reg rd)) := by
  have hstore : exec (.st rd rs1 o2) s = storeOne .word s.dataAsi (effectiveAddress rs1 o2 s) (s.reg rd) State.advance s :=
    whenAligned_of_aligned (aligned_word_of ha) _ s
  rw [hstore, storeOne, busWrite_ram (nextAnswer_of_undisturbed hu) hk, andThen_ok] at h
  cases h
  exact ⟨undisturbed_congr (s := s.popAnswer) (by simp) (by simp) (undisturbed_popAnswer hu), by simp,
    dataAsi_congr (by simp), stores_storing (distinctCells_word _ _ ha) rfl⟩

section ReadBack

variable {s t : State} {asi : Asi} {n v : Word}

/-- The bytes of a word just stored, in the order of their addresses. -/
theorem byteAt_of_stores (hp : t.platform = s.platform) (hm : Stores t s asi n (bytesBE v)) (a : Word) (i j : Nat)
    (hij : i + j < 4) (ha : a = n + BitVec.ofNat 32 i) :
    t.byteAt asi a j = v.extractLsb' (8 * (3 - (i + j))) 8 := by
  obtain ⟨hin, _⟩ := hm
  rw [State.byteAt, hp, ha, BitVec.add_assoc, ← BitVec.ofNat_add, hin ⟨i + j, hij⟩]
  generalize i + j = k at hij
  interval_cases k <;> rfl

/-- The two bytes of half `i` of a word, counted from the most significant. -/
theorem half_of_bytes (v : Word) {i : Nat} (hi : i < 2) :
    v.extractLsb' (8 * (3 - (2 * i + 0))) 8 ++ v.extractLsb' (8 * (3 - (2 * i + 1))) 8
      = v.extractLsb' (16 * (1 - i)) 16 := by
  have hstart : 8 * (3 - (2 * i + 1)) = 16 * (1 - i) := by omega
  rw [BitVec.extractLsb'_append_extractLsb'_eq_extractLsb' (by omega), hstart]

theorem wordAt_of_stores (hp : t.platform = s.platform) (hm : Stores t s asi n (bytesBE v)) : t.wordAt asi n = v := by
  have byte (j : Nat) (hj : 0 + j < 4) := byteAt_of_stores hp hm n 0 j hj (BitVec.add_zero n).symm
  rw [State.wordAt, byte 0 (by decide), byte 1 (by decide), byte 2 (by decide), byte 3 (by decide)]
  exact wordOfBytes_bytesOfWord v

/-- The halfwords of an aligned word are aligned (R68). -/
theorem half_aligned_add (h : n.extractLsb' 0 2 = 0#2) (i : Nat) :
    (n + BitVec.ofNat 32 (2 * i)).extractLsb' 0 1 = 0#1 := by
  have h := congrArg BitVec.toNat h
  apply BitVec.eq_of_toNat_eq
  simp only [BitVec.extractLsb'_toNat, BitVec.toNat_add, BitVec.toNat_ofNat, Nat.shiftRight_eq_div_pow] at h ⊢
  omega

end ReadBack

/-- Settles O43: the loads read the bytes the store has put into memory, most significant first. -/
theorem storedWordIsReadByBytes : Obligations.StoredWordIsReadByBytes := by
  intro s t rd rs1 o2 hu hk hst ha rd' rs1' o2' hk' n v
  obtain ⟨hu', hp, hasi, hm⟩ := exec_st_stores hu hk ha hst
  rw [← hasi] at hm
  refine ⟨fun i hi => ?_, fun i hi => ?_, fun hn => ?_⟩
  · have hbyte := byteAt_of_stores hp hm _ i.val 0 i.isLt hi
    rw [← setWidth_byte]
    exact hbyte ▸ loadReg_endsWith (z := .byte) hu' hk' rfl rd' id
  · have hfst := byteAt_of_stores hp hm _ (2 * i.val) 0 (by omega) hi
    have hsnd := byteAt_of_stores hp hm _ (2 * i.val) 1 (by omega) hi
    rw [← setWidth_half, ← half_of_bytes _ i.isLt, ← hfst, ← hsnd]
    exact loadReg_endsWith hu' hk' (aligned_half_of (hi ▸ half_aligned_add ha i.val)) rd' id
  · have hword : t.wordAt t.dataAsi n = v := wordAt_of_stores hp hm
    rw [← hword, ← hn]
    exact loadReg_endsWith hu' hk' (aligned_word_of (hn ▸ ha)) rd' id

end Sys2Proof.Machine
end

section
/-! PROOF. A load, store or atomic at a misaligned address (O38). -/

namespace Sys2Proof.Machine

/-! ### Misaligned addresses (R67, R346) -/

/-- Which address bits each size of access needs to be 0 (R68). -/
theorem aligned_eq (size : AccessSize) (a : Word) : aligned size a =
    match size with
    | .byte => true
    | .half => decide (a.extractLsb' 0 1 = 0#1)
    | .word => decide (a.extractLsb' 0 2 = 0#2)
    | .double => decide (a.extractLsb' 0 3 = 0#3) := by
  cases size <;> rfl

theorem misaligned_half {a : Word} (h : a.extractLsb' 0 1 ≠ 0#1) : ¬ aligned .half a = true := by simpa [aligned] using h

theorem misaligned_word {a : Word} (h : a.extractLsb' 0 2 ≠ 0#2) : ¬ aligned .word a = true := by simpa [aligned] using h

theorem misaligned_double {a : Word} (h : a.extractLsb' 0 3 ≠ 0#3) : ¬ aligned .double a = true := by
  simpa [aligned] using h

section Misaligned

variable {z : AccessSize} {a : Word} {s : State} {i : Instr}

theorem whenAligned_of_misaligned (h : ¬ aligned z a = true) (k : State → Result) (s : State) :
    whenAligned z a k s = raise .memAddressNotAligned s := if_neg h

/-- An instruction whose first check is that of its address. -/
theorem traps_of_whenAligned (h : ¬ aligned z a = true) (hi : ∃ k, exec i s = whenAligned z a k s) :
    Traps .memAddressNotAligned i s := by
  obtain ⟨k, e⟩ := hi
  exact e.trans (whenAligned_of_misaligned h k s)

theorem traps_of_fpMemory (hon : ¬ s.fpOff) (h : ¬ aligned z a = true) (hi : ∃ k, exec i s = fpMemory z a k s) :
    Traps .memAddressNotAligned i s := by
  obtain ⟨k, e⟩ := hi
  exact traps_of_whenAligned h ⟨_, e.trans (withFp_of_on hon _)⟩

theorem traps_of_cpMemory (hon : ¬ s.cpOff) (h : ¬ aligned z a = true) (hi : ∃ k, exec i s = cpMemory z a k s) :
    Traps .memAddressNotAligned i s := by
  obtain ⟨k, e⟩ := hi
  exact traps_of_whenAligned h ⟨_, e.trans (withCp_of_on hon _)⟩

end Misaligned

/-- What the ordinary loads, stores and atomics do at misaligned addresses. -/
theorem ordinary_misaligned_traps (s : State) (rd rs1 : Reg) (o2 : Operand2) :
    let ea := effectiveAddress rs1 o2 s
    (ea.extractLsb' 0 1 ≠ 0#1 → ∀ i ∈ [Instr.ldsh rd rs1 o2, .lduh rd rs1 o2, .sth rd rs1 o2],
        Traps .memAddressNotAligned i s)
    ∧ (ea.extractLsb' 0 2 ≠ 0#2 → ∀ i ∈ [Instr.ld rd rs1 o2, .st rd rs1 o2, .swap rd rs1 o2],
        Traps .memAddressNotAligned i s)
    ∧ (ea.extractLsb' 0 3 ≠ 0#3 → ∀ i ∈ [Instr.ldd rd rs1 o2, .std rd rs1 o2], Traps .memAddressNotAligned i s) := by
  simp only [List.forall_mem_cons, List.not_mem_nil, false_implies, implies_true, and_true]
  refine ⟨fun h => ?_, fun h => ?_, fun h => ?_⟩
  · have trap {i} (hi) := traps_of_whenAligned (s := s) (i := i) (misaligned_half h) hi
    exact ⟨trap ⟨_, rfl⟩, trap ⟨_, rfl⟩, trap ⟨_, rfl⟩⟩
  · have trap {i} (hi) := traps_of_whenAligned (s := s) (i := i) (misaligned_word h) hi
    exact ⟨trap ⟨_, rfl⟩, trap ⟨_, rfl⟩, trap ⟨_, rfl⟩⟩
  · have trap {i} (hi) := traps_of_whenAligned (s := s) (i := i) (misaligned_double h) hi
    exact ⟨trap ⟨_, rfl⟩, trap ⟨_, rfl⟩⟩

/-- The same for those of an alternate space, in supervisor mode. -/
theorem alternate_misaligned_traps {s : State} (hs : s.psr.s = true) (rd rs1 rs2 : Reg) (asi : Asi) :
    let ea := alternateAddress rs1 rs2 s
    (ea.extractLsb' 0 1 ≠ 0#1 → ∀ i ∈ [Instr.ldsha rd rs1 rs2 asi, .lduha rd rs1 rs2 asi, .stha rd rs1 rs2 asi],
        Traps .memAddressNotAligned i s)
    ∧ (ea.extractLsb' 0 2 ≠ 0#2 → ∀ i ∈ [Instr.lda rd rs1 rs2 asi, .sta rd rs1 rs2 asi, .swapa rd rs1 rs2 asi],
        Traps .memAddressNotAligned i s)
    ∧ (ea.extractLsb' 0 3 ≠ 0#3 → ∀ i ∈ [Instr.ldda rd rs1 rs2 asi, .stda rd rs1 rs2 asi],
        Traps .memAddressNotAligned i s) := by
  have on (k : State → Result) : privileged k s = k s := privileged_of_supervisor hs k
  simp only [List.forall_mem_cons, List.not_mem_nil, false_implies, implies_true, and_true]
  refine ⟨fun h => ?_, fun h => ?_, fun h => ?_⟩
  · have trap {i} (hi) := traps_of_whenAligned (s := s) (i := i) (misaligned_half h) hi
    exact ⟨trap ⟨_, on _⟩, trap ⟨_, on _⟩, trap ⟨_, on _⟩⟩
  · have trap {i} (hi) := traps_of_whenAligned (s := s) (i := i) (misaligned_word h) hi
    exact ⟨trap ⟨_, on _⟩, trap ⟨_, on _⟩, trap ⟨_, on _⟩⟩
  · have trap {i} (hi) := traps_of_whenAligned (s := s) (i := i) (misaligned_double h) hi
    exact ⟨trap ⟨_, on _⟩, trap ⟨_, on _⟩⟩

/-- Settles O38: each instruction checks its address before the access and after its mode and unit. -/
theorem misalignedAddressesTrap : Obligations.MisalignedAddressesTrap := by
  refine ⟨fun s rd rs1 o2 => ?_, fun s rd rs1 rs2 asi hs => alternate_misaligned_traps hs rd rs1 rs2 asi, aligned_eq⟩
  obtain ⟨hhalf, hword, hdouble⟩ := ordinary_misaligned_traps s rd rs1 o2
  refine ⟨hhalf, fun h => ⟨hword h, fun hon i hi => ?_, fun hon i hi => ?_⟩,
    fun h => ⟨hdouble h, fun hon i hi => ?_, fun hon i hi => ?_, fun hs hon => ?_, fun hs hon => ?_⟩⟩
  · exact traps_of_fpMemory hon (misaligned_word h) (exec_fpWordForms hi s)
  · exact traps_of_cpMemory hon (misaligned_word h) (exec_cpWordForms hi s)
  · exact traps_of_fpMemory hon (misaligned_double h) (exec_fpDoubleForms hi s)
  · exact traps_of_cpMemory hon (misaligned_double h) (exec_cpDoubleForms hi s)
  · exact traps_of_whenAligned (misaligned_double h) ⟨_, (privileged_of_supervisor hs _).trans (withFp_of_on hon _)⟩
  · exact traps_of_whenAligned (misaligned_double h) ⟨_, (privileged_of_supervisor hs _).trans (withCp_of_on hon _)⟩

end Sys2Proof.Machine
end

section
/-! PROOF. Accesses that the memory system refuses: the first access of an instruction (O40), its second (O41), and the fetch
(O21). -/

namespace Sys2Proof.Machine

/-! ### The trap of a refused access (R347) -/

/-- What a trap leaves visible depends on what was visible before it. -/
theorem raiseAt_visible {u s : State} (h : u.visible = s.visible) (a b : Word) (t : Trap) :
    (raiseAt a b t u).visible = (raiseAt a b t s).visible := by
  have through (x : State) : (raiseAt a b t x).visible = (raiseAt a b t x.visible).visible := by
    rcases raiseAt_cases a b t x with ⟨het, e⟩ | ⟨het, e⟩
    · rw [e, raiseAt_of_enabled (s := x.visible) het]; rfl
    · rw [e, raiseAt_of_disabled (s := x.visible) het]; rfl
  rw [through u, h, ← through s]

/-- A trap in a state like `s` but for the record is that trap in `s`, but for the record. -/
theorem raise_visible {u s : State} (h : u.visible = s.visible) (t : Trap) :
    ∃ w, raise t u = .next w ∧ w.visible = (raiseAt s.pc s.npc t s).visible := by
  have hpc : u.pc = s.pc := show u.visible.pc = s.visible.pc by rw [h]
  have hnpc : u.npc = s.npc := show u.visible.npc = s.visible.npc by rw [h]
  exact ⟨_, rfl, by rw [hpc, hnpc]; exact raiseAt_visible h _ _ t⟩

theorem raise_endsAs {u s : State} (h : u.visible = s.visible) (t : Trap) :
    EndsAs (raise t u) (raiseAt s.pc s.npc t s) := by
  obtain ⟨w, e, hw⟩ := raise_visible h t
  exact ⟨w, e, .of_visible hw⟩

/-- Trap entry does not depend on memory. -/
theorem raiseAt_withMem (a b : Word) (t : Trap) (s : State) (m : List Host.Cell) :
    raiseAt a b t { s with mem := m } = { raiseAt a b t s with mem := m } := by
  unfold raiseAt
  cases s.psr.et <;> rfl

/-- Nor, for this trap, on the registers of the units. -/
theorem raiseAt_withF (a b : Word) (s : State) (f : Vector Word 32) :
    raiseAt a b .dataAccess { s with fpu := { s.fpu with f := f } }
      = { raiseAt a b .dataAccess s with fpu := { s.fpu with f := f } } := by
  unfold raiseAt
  cases s.psr.et <;> rfl

theorem raiseAt_withC (a b : Word) (s : State) (c : Vector Word 32) :
    raiseAt a b .dataAccess { s with cp := { s.cp with c := c } }
      = { raiseAt a b .dataAccess s with cp := { s.cp with c := c } } := by
  unfold raiseAt
  cases s.psr.et <;> rfl

/-! ### What the memory system answers (R79, R80) -/

/-- The answer to the second access is the first of those that are left. -/
theorem getD_tail (l : List BusAnswer) : l.tail.getD 0 .ready = l.getD 1 .ready := by
  rcases l with _ | ⟨_, _ | _⟩ <;> rfl

theorem nextAnswer_eq (s : State) : s.nextAnswer = s.pins.dataAnswers.getD 0 .ready := by
  rw [State.nextAnswer]
  cases s.pins.dataAnswers <;> rfl

/-- One data access of `s` has been answered, and `t` has the answers that are left and the platform map. -/
def Answered (s t : State) : Prop := t.pins = s.popAnswer.pins ∧ t.platform = s.platform

theorem Accessed.answered {s t : State} (h : Accessed s t) : Answered s t := by
  obtain ⟨e, n, b, _, rfl⟩ := h
  exact ⟨rfl, rfl⟩

theorem Accessed.visible {s t : State} (h : Accessed s t) : t.visible = s.visible := by
  obtain ⟨e, n, b, _, rfl⟩ := h
  rfl

theorem Stored.answered {asi : Asi} {a v : Word} {z : AccessSize} {s t : State} (h : Stored asi a z v s t) :
    Answered s t := by
  obtain ⟨u, hu, rfl | rfl⟩ := h
  · exact hu.answered
  · exact hu.answered

theorem Stored.visible {asi : Asi} {a v : Word} {z : AccessSize} {s t : State} (h : Stored asi a z v s t) :
    t.visible = s.visible ∨ t.visible = (s.storing asi a (storedBytes z v)).visible := by
  obtain ⟨u, hu, rfl | rfl⟩ := h
  · right
    rw [storeBytes_visible, hu.visible, storing_visible]
  · exact .inl hu.visible

/-- What refuses the second access of `s` refuses the next one of a state that has had its first answered. -/
theorem Answered.refuses {s t : State} (h : Answered s t) {asi : Asi} {a : Word} {w : Bool} (hr : s.refuses 1 asi a w) :
    t.refuses 0 asi a w := by
  obtain ⟨hp, hm⟩ := h
  rwa [State.refuses, hp, hm, State.popAnswer_pins, getD_tail]

section Accesses

variable {z : AccessSize} {asi : Asi} {a v : Word} {locked atomic : Bool} {s : State}

theorem busRead_refused (h : s.refuses 0 asi a false) :
    ∃ u, Accessed s u ∧ busRead asi a z locked atomic s = .exception u := by
  refine ⟨_, accessed_emit s (readCycle asi a z locked atomic), ?_⟩
  rw [State.refuses, ← nextAnswer_eq] at h
  rcases h with h | ⟨hpass, hk | ⟨hw, _⟩⟩
  · simp [busRead, h, readCycle]
  · cases hn : s.nextAnswer <;> simp [busRead, BusAnswer.passes, hn, answerRead, takeData, hk, readCycle] at hpass ⊢
  · cases hw

theorem busWrite_refused (h : s.refuses 0 asi a true) :
    ∃ u, Accessed s u ∧ busWrite asi a z v atomic s = .exception u := by
  refine ⟨_, accessed_emit s (writeCycle asi a z v atomic), ?_⟩
  rw [State.refuses, ← nextAnswer_eq] at h
  rcases h with h | ⟨hpass, hk | ⟨_, hk⟩⟩
  · simp [busWrite, h, writeCycle]
  · cases hn : s.nextAnswer <;> simp [busWrite, BusAnswer.passes, hn, answerWrite, hk, writeCycle] at hpass ⊢
  · cases hn : s.nextAnswer <;> simp [busWrite, BusAnswer.passes, hn, answerWrite, hk, writeCycle] at hpass ⊢

/-- Where something answers a read, the IU takes some data, good or bad. -/
theorem takeData_answerRead (given : Option Word) (hk : regionKind s.platform asi a ≠ .absent) :
    ∃ v u, takeData z a (answerRead given asi a z s) = .ok v u := by
  have taken (v : Word) (u : State) : ∃ v' u', takeData z a (.ok v u) = .ok v' u' := by
    by_cases hl : u.loadSuspect = true
    · exact ⟨_, _, if_pos hl⟩
    · exact ⟨_, _, if_neg hl⟩
  unfold answerRead
  split
  · exact taken _ _
  · exact taken _ _
  · exact taken _ _
  · next h => exact absurd h hk

theorem busRead_granted (h : s.grants 0 asi a false) :
    ∃ v u, Accessed s u ∧ busRead asi a z locked atomic s = .ok v u := by
  rw [State.grants, ← nextAnswer_eq] at h
  obtain ⟨hpass, hk⟩ := h
  have hthere : regionKind s.platform asi a ≠ .absent := by
    rcases hk with hk | hk | ⟨_, hk⟩ <;> rw [hk] <;> exact nofun
  have hok : ∃ v u, busRead asi a z locked atomic s = .ok v u := by
    unfold busRead
    cases hn : s.nextAnswer with
    | ready => exact takeData_answerRead none hthere
    | data w => exact takeData_answerRead (some w) hthere
    | mexc | reset => rw [hn] at hpass; exact hpass.elim
  obtain ⟨v, u, e⟩ := hok
  rcases busRead_cases asi a z locked atomic s with h | ⟨_, _, e'⟩ | e'
  · exact h
  · cases e.symm.trans e'
  · cases e.symm.trans e'

theorem busWrite_granted (h : s.grants 0 asi a true) :
    ∃ u, Stored asi a z v s u ∧ busWrite asi a z v atomic s = .ok 0#32 u := by
  rw [State.grants, ← nextAnswer_eq] at h
  obtain ⟨hpass, hk⟩ := h
  have hok (u : State) (hu : u.platform = s.platform) : ∃ w, answerWrite asi a z v u = .ok 0#32 w := by
    unfold answerWrite
    rw [hu]
    rcases hk with hk | hk | ⟨hw, _⟩
    · exact ⟨_, by rw [hk]⟩
    · exact ⟨_, by rw [hk]⟩
    · cases hw
  have hok : ∃ u, busWrite asi a z v atomic s = .ok 0#32 u := by
    unfold busWrite
    cases hn : s.nextAnswer with
    | ready => exact hok _ rfl
    | data w => exact hok _ rfl
    | mexc | reset => rw [hn] at hpass; exact hpass.elim
  obtain ⟨u, e⟩ := hok
  rcases busWrite_cases asi a z v atomic s with h | ⟨_, _, e'⟩ | e'
  · exact h
  · cases e.symm.trans e'
  · cases e.symm.trans e'

end Accesses

/-! ### Refused accesses of each shape -/

/-- `r` is what `onExc` makes of a refused access of `s`, which has changed the record at most. -/
def LeadsTo (r : Result) (onExc : State → Result) (s : State) : Prop := ∃ u, u.visible = s.visible ∧ r = onExc u

/-- `r` is what a refused second word of a doubleword store at `a` leads to, its first word `hi` having been stored or
not. -/
def SecondRefused (r : Result) (s : State) (asi : Asi) (a hi : Word) : Prop :=
  ∃ u, (u.visible = s.visible ∨ u.visible = (s.storing asi a (bytesBE hi)).visible) ∧ r = secondWordRefused s.mem u

section Shapes

variable {z : AccessSize} {asi : Asi} {a v : Word} {s : State} {onExc : State → Result}

theorem loadOne_refused (h : s.refuses 0 asi a false) (finish : Word → State → State) :
    LeadsTo (loadOne z asi a finish s) (raise .dataAccess) s := by
  obtain ⟨u, hu, e⟩ := busRead_refused h
  exact ⟨u, hu.visible, by rw [loadOne, e, andThen_exception]⟩

theorem loadTwo_refused (h : s.refuses 0 asi a false ∨ s.grants 0 asi a false ∧ s.refuses 1 asi (a + 4#32) false)
    (finish : Word → Word → State → State) : LeadsTo (loadTwo asi a onExc finish s) onExc s := by
  rcases h with h | ⟨hg, hr⟩
  · obtain ⟨u, hu, e⟩ := busRead_refused h
    exact ⟨u, hu.visible, by rw [loadTwo, e, andThen_exception]⟩
  · obtain ⟨w, u, hu, e⟩ := busRead_granted hg
    obtain ⟨u', hu', e'⟩ := busRead_refused (hu.answered.refuses hr)
    exact ⟨u', hu'.visible.trans hu.visible, by rw [loadTwo, e, andThen_ok, e', andThen_exception]⟩

theorem storeOne_refused (h : s.refuses 0 asi a true) (finish : State → State) :
    LeadsTo (storeOne z asi a v finish s) (raise .dataAccess) s := by
  obtain ⟨u, hu, e⟩ := busWrite_refused h
  exact ⟨u, hu.visible, by rw [storeOne, e, andThen_exception]⟩

theorem storeTwo_refused (h : s.refuses 0 asi a true) (hi lo : Word) (finish : State → State) :
    LeadsTo (storeTwo asi a hi lo finish s) (raise .dataAccess) s := by
  obtain ⟨u, hu, e⟩ := busWrite_refused h
  exact ⟨u, hu.visible, by rw [storeTwo, e, andThen_exception]⟩

theorem storeTwo_secondRefused (hg : s.grants 0 asi a true) (hr : s.refuses 1 asi (a + 4#32) true) (hi lo : Word)
    (finish : State → State) : SecondRefused (storeTwo asi a hi lo finish s) s asi a hi := by
  obtain ⟨u, hu, e⟩ := busWrite_granted hg
  obtain ⟨u', hu', e'⟩ := busWrite_refused (hu.answered.refuses hr)
  refine ⟨u', ?_, by rw [storeTwo, e, andThen_ok, e', andThen_exception]⟩
  rw [hu'.visible]
  exact hu.visible

theorem loadStore_refused (h : s.refuses 0 asi a false ∨ s.grants 0 asi a false ∧ s.refuses 1 asi a true)
    (finish : Word → State → State) : LeadsTo (loadStore z asi a v finish s) (raise .dataAccess) s := by
  rcases h with h | ⟨hg, hr⟩
  · obtain ⟨u, hu, e⟩ := busRead_refused h
    exact ⟨u, hu.visible, by rw [loadStore, e, andThen_exception]⟩
  · obtain ⟨w, u, hu, e⟩ := busRead_granted hg
    obtain ⟨u', hu', e'⟩ := busWrite_refused (hu.answered.refuses hr)
    exact ⟨u', hu'.visible.trans hu.visible, by rw [loadStore, e, andThen_ok, e', andThen_exception]⟩

end Shapes

/-! ### Instructions whose access is refused -/

theorem refused_of_leadsTo {i : Instr} {s : State} (h : LeadsTo (exec i s) (raise .dataAccess) s) : Refused i s := by
  obtain ⟨u, hu, e⟩ := h
  rw [Refused, e]
  exact raise_endsAs hu _

section Refusals

variable {z : AccessSize} {asi : Asi} {a v : Word} {s : State} {i : Instr} {rd : Reg}

/-- The trap of a refused doubleword load of the FPU, with every f register but those of the pair as it was. -/
theorem fpPairRefused_eq (rd : Reg) (u : State) :
    ∃ f : Vector Word 32, (∀ r : Reg, r ∉ doubleGroup rd → f[r.toNat] = u.freg r)
      ∧ fpPairRefused rd u = raise .dataAccess { u.drawn.drawn with fpu := { u.fpu with f := f } } := by
  have other (v w : Word) (r : Reg) (hr : r ∉ doubleGroup rd) :
      ((u.drawn.drawn.setFreg (evenReg rd) v).setFreg (oddReg rd) w).freg r = u.freg r := by
    have hne : r ≠ evenReg rd ∧ r ≠ oddReg rd := by simpa [doubleGroup, evenReg, oddReg] using hr
    rw [freg_setFreg, if_neg hne.2, freg_setFreg, if_neg hne.1]
    rfl
  rw [fpPairRefused]
  exact ⟨_, other _ _, rfl⟩

/-- A refused doubleword load of the FPU leaves its pair of f registers open (R165, log 20). -/
theorem refusedFpPair_of_leadsTo (h : LeadsTo (exec i s) (fpPairRefused rd) s) : RefusedFpPair i s rd := by
  obtain ⟨u, hu, e⟩ := h
  obtain ⟨f, hother, ef⟩ := fpPairRefused_eq rd u
  have hw : { u.drawn.drawn with fpu := { u.fpu with f := f } }.visible
      = { s with fpu := { s.fpu with f := f } }.visible := by
    change { u.visible with fpu := { u.visible.fpu with f := f } } = _
    rw [hu]
    rfl
  obtain ⟨t, et, ht⟩ := raise_visible hw .dataAccess
  rw [raiseAt_withF] at ht
  obtain rfl : t.fpu.f = f := show t.visible.fpu.f = f by rw [ht]; rfl
  have hus (r : Reg) : u.freg r = s.freg r := show u.visible.freg r = s.visible.freg r by rw [hu]
  exact ⟨t, (e.trans ef).trans et, fun r hr => (hother r hr).trans (hus r), .of_visible ht⟩

/-- The same for the coprocessor. -/
theorem cpPairRefused_eq (rd : Reg) (u : State) :
    ∃ file : Vector Word 32, (∀ r : Reg, r ∉ doubleGroup rd → file[r.toNat] = u.creg r)
      ∧ cpPairRefused rd u = raise .dataAccess { u.drawn.drawn with cp := { u.cp with c := file } } := by
  have other (v w : Word) (r : Reg) (hr : r ∉ doubleGroup rd) :
      ((u.drawn.drawn.setCreg (evenReg rd) v).setCreg (oddReg rd) w).creg r = u.creg r := by
    have hne : r ≠ evenReg rd ∧ r ≠ oddReg rd := by simpa [doubleGroup, evenReg, oddReg] using hr
    rw [creg_setCreg, if_neg hne.2, creg_setCreg, if_neg hne.1]
    rfl
  rw [cpPairRefused]
  exact ⟨_, other _ _, rfl⟩

theorem refusedCpPair_of_leadsTo (h : LeadsTo (exec i s) (cpPairRefused rd) s) : RefusedCpPair i s rd := by
  obtain ⟨u, hu, e⟩ := h
  obtain ⟨file, hother, ec⟩ := cpPairRefused_eq rd u
  have hw : { u.drawn.drawn with cp := { u.cp with c := file } }.visible
      = { s with cp := { s.cp with c := file } }.visible := by
    change { u.visible with cp := { u.visible.cp with c := file } } = _
    rw [hu]
    rfl
  obtain ⟨t, et, ht⟩ := raise_visible hw .dataAccess
  rw [raiseAt_withC] at ht
  obtain rfl : t.cp.c = file := show t.visible.cp.c = file by rw [ht]; rfl
  have hus (r : Reg) : u.creg r = s.creg r := show u.visible.creg r = s.visible.creg r by rw [hu]
  exact ⟨t, (e.trans ec).trans et, fun r hr => (hother r hr).trans (hus r), .of_visible ht⟩

/-- A refused second word traps with the memory of before the store or that of now. -/
theorem secondWordRefused_eq (before : List Host.Cell) (u : State) :
    ∃ m, (m = u.mem ∨ m = before) ∧ secondWordRefused before u = raise .dataAccess { u.drawn with mem := m } := by
  refine ⟨_, ?_, rfl⟩
  split
  · exact .inl rfl
  · exact .inr rfl

/-- The store's first word is old or new after its second is refused, and no other byte has changed (D11, log 19). -/
theorem refusedStore_of_secondRefused (ha : a.extractLsb' 0 3 = 0#3) (h : SecondRefused (exec i s) s asi a v) :
    RefusedStore i s asi a v := by
  obtain ⟨u, hu, e⟩ := h
  obtain ⟨m, hm, e'⟩ := secondWordRefused_eq s.mem u
  have hmem : m = s.mem ∨ m = (s.storing asi a (bytesBE v)).mem := by
    rcases hm with rfl | rfl
    · exact hu.imp mem_of_visible mem_of_visible
    · exact .inl rfl
  have hw : { u.drawn with mem := m }.visible = { s with mem := m }.visible := by
    change { u.visible with mem := m } = { s.visible with mem := m }
    rcases hu with hu | hu
    · rw [hu]
    · rw [hu]; rfl
  obtain ⟨t, et, ht⟩ := raise_visible hw .dataAccess
  rw [raiseAt_withMem] at ht
  obtain rfl : t.mem = m := mem_of_visible ht
  refine ⟨t, (e.trans e').trans et, .of_visible ht, ?_⟩
  rcases hmem with hmem | hmem
  · exact .inl fun k => by rw [hmem]
  · exact .inr (stores_storing (distinctCells_of_aligned (z := .double) _ _ (aligned_double_of ha) v) hmem)

/-! ### The refused accesses of each instruction -/

theorem loadReg_refused (h : s.refuses 0 asi a false) (ha : aligned z a = true) (finish : Word → State → State) :
    LeadsTo (loadReg z asi a finish s) (raise .dataAccess) s := by
  rw [loadReg, whenAligned_of_aligned ha]
  exact loadOne_refused h finish

theorem loadPair_refused (h : s.refuses 0 asi a false ∨ s.grants 0 asi a false ∧ s.refuses 1 asi (a + 4#32) false)
    (ha : a.extractLsb' 0 3 = 0#3) (rd : Reg) : LeadsTo (loadPair asi a rd s) (raise .dataAccess) s := by
  rw [loadPair, whenAligned_of_aligned (aligned_double_of ha)]
  exact loadTwo_refused h (putPair rd)

theorem storeReg_refused (h : s.refuses 0 asi a true) (ha : aligned z a = true) (rd : Reg) :
    LeadsTo (storeReg z asi a rd s) (raise .dataAccess) s := by
  rw [storeReg, whenAligned_of_aligned ha]
  exact storeOne_refused h State.advance

theorem storePair_refused (h : s.refuses 0 asi a true) (ha : a.extractLsb' 0 3 = 0#3) (rd : Reg) :
    LeadsTo (storePair asi a rd s) (raise .dataAccess) s := by
  rw [storePair, whenAligned_of_aligned (aligned_double_of ha)]
  exact storeTwo_refused h _ _ State.advance

theorem storePair_secondRefused (hg : s.grants 0 asi a true) (hr : s.refuses 1 asi (a + 4#32) true)
    (ha : a.extractLsb' 0 3 = 0#3) (rd : Reg) :
    SecondRefused (storePair asi a rd s) s asi a (s.reg (rd &&& 30#5)) := by
  rw [storePair, whenAligned_of_aligned (aligned_double_of ha)]
  exact storeTwo_secondRefused hg hr _ _ State.advance

theorem swapWord_refused (h : s.refuses 0 asi a false ∨ s.grants 0 asi a false ∧ s.refuses 1 asi a true)
    (ha : a.extractLsb' 0 2 = 0#2) (rd : Reg) : LeadsTo (swapWord asi a rd s) (raise .dataAccess) s := by
  rw [swapWord, whenAligned_of_aligned (aligned_word_of ha)]
  exact loadStore_refused h (putReg rd)

/-- An aligned access of an FPU that is on and has no exception pending is launched, in whatever mode the FPU is. -/
theorem fpMemory_of_on (hon : ¬ s.fpOff) (hpend : s.fpu.excPending = false) (ha : aligned z a = true)
    (access : State → Result) : fpMemory z a access s = access (s.emit (.launchFp s.ir s.pc)) := by
  rw [fpMemory, withFp_of_on hon, whenAligned_of_aligned ha, launchFp_idle hpend]

theorem cpMemory_of_on (hon : ¬ s.cpOff) (hpend : s.cp.excPending = false) (ha : aligned z a = true)
    (access : State → Result) : cpMemory z a access s = access (s.emit (.launchCp s.ir s.pc)) := by
  rw [cpMemory, withCp_of_on hon, whenAligned_of_aligned ha, launchCp_idle hpend]

end Refusals

/-! ### A refused first access (R80, R122, R123) -/

section Launched

variable {z : AccessSize} {a : Word} {s : State} {access onExc : State → Result}

/-- A refused access of an instruction that is handed to the FPU before it. -/
theorem fpMemory_leadsTo (hon : ¬ s.fpOff) (hpend : s.fpu.excPending = false) (ha : aligned z a = true)
    (h : LeadsTo (access (s.emit (.launchFp s.ir s.pc))) onExc (s.emit (.launchFp s.ir s.pc))) :
    LeadsTo (fpMemory z a access s) onExc s := by
  rw [fpMemory_of_on hon hpend ha]
  exact h

theorem cpMemory_leadsTo (hon : ¬ s.cpOff) (hpend : s.cp.excPending = false) (ha : aligned z a = true)
    (h : LeadsTo (access (s.emit (.launchCp s.ir s.pc))) onExc (s.emit (.launchCp s.ir s.pc))) :
    LeadsTo (cpMemory z a access s) onExc s := by
  rw [cpMemory_of_on hon hpend ha]
  exact h

end Launched

section Doubles

variable {s : State} {rd rs1 : Reg} {o2 : Operand2}

/-- LDDF with either word refused. -/
theorem lddf_refused (hon : ¬ s.fpOff) (hpend : s.fpu.excPending = false)
    (ha : (effectiveAddress rs1 o2 s).extractLsb' 0 3 = 0#3)
    (h : s.refuses 0 s.dataAsi (effectiveAddress rs1 o2 s) false
      ∨ s.grants 0 s.dataAsi (effectiveAddress rs1 o2 s) false
        ∧ s.refuses 1 s.dataAsi (effectiveAddress rs1 o2 s + 4#32) false) :
    RefusedFpPair (.lddf rd rs1 o2) s rd :=
  refusedFpPair_of_leadsTo (fpMemory_leadsTo hon hpend (aligned_double_of ha)
    (loadTwo_refused (s := s.emit (.launchFp s.ir s.pc)) h _))

/-- LDDC with either word refused. -/
theorem lddc_refused (hon : ¬ s.cpOff) (hpend : s.cp.excPending = false)
    (ha : (effectiveAddress rs1 o2 s).extractLsb' 0 3 = 0#3)
    (h : s.refuses 0 s.dataAsi (effectiveAddress rs1 o2 s) false
      ∨ s.grants 0 s.dataAsi (effectiveAddress rs1 o2 s) false
        ∧ s.refuses 1 s.dataAsi (effectiveAddress rs1 o2 s + 4#32) false) :
    RefusedCpPair (.lddc rd rs1 o2) s rd :=
  refusedCpPair_of_leadsTo (cpMemory_leadsTo hon hpend (aligned_double_of ha)
    (loadTwo_refused (s := s.emit (.launchCp s.ir s.pc)) h _))

end Doubles

/-- The loads of the data space of the mode, their first access refused. -/
theorem ordinary_loads_refused {s : State} (rd rs1 : Reg) (o2 : Operand2)
    (h : s.refuses 0 s.dataAsi (effectiveAddress rs1 o2 s) false) :
    let ea := effectiveAddress rs1 o2 s
    (∀ i ∈ [Instr.ldsb rd rs1 o2, .ldub rd rs1 o2], Refused i s)
    ∧ (ea.extractLsb' 0 1 = 0#1 → ∀ i ∈ [Instr.ldsh rd rs1 o2, .lduh rd rs1 o2], Refused i s)
    ∧ (ea.extractLsb' 0 2 = 0#2 → Refused (.ld rd rs1 o2) s
      ∧ (¬ s.fpOff → s.fpu.excPending = false → ∀ i ∈ [Instr.ldf rd rs1 o2, .ldfsr rs1 o2], Refused i s)
      ∧ (¬ s.cpOff → s.cp.excPending = false → ∀ i ∈ [Instr.ldc rd rs1 o2, .ldcsr rs1 o2], Refused i s))
    ∧ (ea.extractLsb' 0 3 = 0#3 → Refused (.ldd rd rs1 o2) s
      ∧ (¬ s.fpOff → s.fpu.excPending = false → RefusedFpPair (.lddf rd rs1 o2) s rd)
      ∧ (¬ s.cpOff → s.cp.excPending = false → RefusedCpPair (.lddc rd rs1 o2) s rd)) := by
  simp only [List.forall_mem_cons, List.not_mem_nil, false_implies, implies_true, and_true]
  have load {z} (ha : aligned z (effectiveAddress rs1 o2 s) = true) (finish) := loadReg_refused h ha finish
  refine ⟨⟨refused_of_leadsTo (load (z := .byte) rfl _), refused_of_leadsTo (load (z := .byte) rfl _)⟩,
    fun ha => ⟨refused_of_leadsTo (load (aligned_half_of ha) _), refused_of_leadsTo (load (aligned_half_of ha) _)⟩,
    fun ha => ⟨refused_of_leadsTo (load (aligned_word_of ha) _), fun hon hp => ?_, fun hon hp => ?_⟩,
    fun ha => ⟨refused_of_leadsTo (loadPair_refused (.inl h) ha rd), fun hon hp => lddf_refused hon hp ha (.inl h),
      fun hon hp => lddc_refused hon hp ha (.inl h)⟩⟩
  · have launched (finish) := fpMemory_leadsTo hon hp (aligned_word_of ha)
      (loadOne_refused (z := .word) (s := s.emit (.launchFp s.ir s.pc)) h finish)
    exact ⟨refused_of_leadsTo (launched _), refused_of_leadsTo (launched _)⟩
  · have launched (finish) := cpMemory_leadsTo hon hp (aligned_word_of ha)
      (loadOne_refused (z := .word) (s := s.emit (.launchCp s.ir s.pc)) h finish)
    exact ⟨refused_of_leadsTo (launched _), refused_of_leadsTo (launched _)⟩

/-- STDFQ stores the front entry, the instruction being handed to the FPU before. -/
theorem exec_stdfq_cons {s : State} {rs1 : Reg} {o2 : Operand2} (hs : s.psr.s = true) (hon : ¬ s.fpOff)
    (ha : (effectiveAddress rs1 o2 s).extractLsb' 0 3 = 0#3) {addr instr : Word} {rest : List (Word × Word)}
    (hq : s.fpu.queue = (addr, instr) :: rest) :
    exec (.stdfq rs1 o2) s = storeTwo s.dataAsi (effectiveAddress rs1 o2 s) addr instr dropFpQueue
      (s.emit (.launchFp s.ir s.pc)) := by
  rw [exec_stdfq_on hs hon ha, storeFpQueue, hq]

/-- The same for STDCQ. -/
theorem exec_stdcq_cons {s : State} {rs1 : Reg} {o2 : Operand2} (hs : s.psr.s = true) (hon : ¬ s.cpOff)
    (ha : (effectiveAddress rs1 o2 s).extractLsb' 0 3 = 0#3) {addr instr : Word} {rest : List (Word × Word)}
    (hq : s.cp.queue = (addr, instr) :: rest) :
    exec (.stdcq rs1 o2) s = storeTwo s.dataAsi (effectiveAddress rs1 o2 s) addr instr dropCpQueue
      (s.emit (.launchCp s.ir s.pc)) := by
  rw [exec_stdcq_on hs hon ha, storeCpQueue, hq]

/-- The stores of the data space of the mode, their first access refused. -/
theorem ordinary_stores_refused {s : State} (rd rs1 : Reg) (o2 : Operand2)
    (h : s.refuses 0 s.dataAsi (effectiveAddress rs1 o2 s) true) :
    let ea := effectiveAddress rs1 o2 s
    Refused (.stb rd rs1 o2) s
    ∧ (ea.extractLsb' 0 1 = 0#1 → Refused (.sth rd rs1 o2) s)
    ∧ (ea.extractLsb' 0 2 = 0#2 → Refused (.st rd rs1 o2) s
      ∧ (¬ s.fpOff → s.fpu.excPending = false → ∀ i ∈ [Instr.stf rd rs1 o2, .stfsr rs1 o2], Refused i s)
      ∧ (¬ s.cpOff → s.cp.excPending = false → ∀ i ∈ [Instr.stc rd rs1 o2, .stcsr rs1 o2], Refused i s))
    ∧ (ea.extractLsb' 0 3 = 0#3 → Refused (.std rd rs1 o2) s
      ∧ (¬ s.fpOff → s.fpu.excPending = false → Refused (.stdf rd rs1 o2) s)
      ∧ (¬ s.cpOff → s.cp.excPending = false → Refused (.stdc rd rs1 o2) s)
      ∧ (s.psr.s = true → ¬ s.fpOff → s.fpu.queue ≠ [] → Refused (.stdfq rs1 o2) s)
      ∧ (s.psr.s = true → ¬ s.cpOff → s.cp.queue ≠ [] → Refused (.stdcq rs1 o2) s)) := by
  simp only [List.forall_mem_cons, List.not_mem_nil, false_implies, implies_true, and_true]
  have store {z} (ha : aligned z (effectiveAddress rs1 o2 s) = true) := storeReg_refused h ha rd
  have hfp : (s.emit (.launchFp s.ir s.pc)).refuses 0 s.dataAsi (effectiveAddress rs1 o2 s) true := h
  have hcp : (s.emit (.launchCp s.ir s.pc)).refuses 0 s.dataAsi (effectiveAddress rs1 o2 s) true := h
  refine ⟨refused_of_leadsTo (store (z := .byte) rfl), fun ha => refused_of_leadsTo (store (aligned_half_of ha)),
    fun ha => ⟨refused_of_leadsTo (store (aligned_word_of ha)), fun hon hp => ?_, fun hon hp => ?_⟩,
    fun ha => ⟨refused_of_leadsTo (storePair_refused h ha rd), fun hon hp => ?_, fun hon hp => ?_,
      fun hs hon hq => ?_, fun hs hon hq => ?_⟩⟩
  · have launched (v finish) := fpMemory_leadsTo hon hp (aligned_word_of ha)
      (storeOne_refused (z := .word) (v := v) hfp finish)
    exact ⟨refused_of_leadsTo (launched _ _), refused_of_leadsTo (launched _ _)⟩
  · have launched (v finish) := cpMemory_leadsTo hon hp (aligned_word_of ha)
      (storeOne_refused (z := .word) (v := v) hcp finish)
    exact ⟨refused_of_leadsTo (launched _ _), refused_of_leadsTo (launched _ _)⟩
  · exact refused_of_leadsTo (fpMemory_leadsTo hon hp (aligned_double_of ha) (storeTwo_refused hfp _ _ _))
  · exact refused_of_leadsTo (cpMemory_leadsTo hon hp (aligned_double_of ha) (storeTwo_refused hcp _ _ _))
  · obtain ⟨⟨addr, instr⟩, rest, hq⟩ := List.exists_cons_of_ne_nil hq
    exact refused_of_leadsTo (exec_stdfq_cons hs hon ha hq ▸ storeTwo_refused hfp addr instr dropFpQueue)
  · obtain ⟨⟨addr, instr⟩, rest, hq⟩ := List.exists_cons_of_ne_nil hq
    exact refused_of_leadsTo (exec_stdcq_cons hs hon ha hq ▸ storeTwo_refused hcp addr instr dropCpQueue)

/-- Settles O40: every load and store makes its first access before it changes anything. -/
theorem refusedAccessTraps : Obligations.RefusedAccessTraps := by
  refine ⟨fun s rd rs1 o2 => ⟨ordinary_loads_refused rd rs1 o2, ordinary_stores_refused rd rs1 o2⟩,
    fun s rd rs1 rs2 asi hs => ⟨fun h => ?_, fun h => ?_⟩⟩
  · simp only [List.forall_mem_cons, List.not_mem_nil, false_implies, implies_true, and_true]
    have load {z} (ha : aligned z (alternateAddress rs1 rs2 s) = true) (finish) :=
      privileged_intro (P := (LeadsTo · _ s)) hs (loadReg_refused h ha finish)
    exact ⟨⟨refused_of_leadsTo (load (z := .byte) rfl _), refused_of_leadsTo (load (z := .byte) rfl _)⟩,
      fun ha => ⟨refused_of_leadsTo (load (aligned_half_of ha) _), refused_of_leadsTo (load (aligned_half_of ha) _)⟩,
      fun ha => refused_of_leadsTo (load (aligned_word_of ha) _),
      fun ha => refused_of_leadsTo (privileged_intro (P := (LeadsTo · _ s)) hs (loadPair_refused (.inl h) ha rd))⟩
  · have store {z} (ha : aligned z (alternateAddress rs1 rs2 s) = true) :=
      privileged_intro (P := (LeadsTo · _ s)) hs (storeReg_refused h ha rd)
    exact ⟨refused_of_leadsTo (store (z := .byte) rfl), fun ha => refused_of_leadsTo (store (aligned_half_of ha)),
      fun ha => refused_of_leadsTo (store (aligned_word_of ha)),
      fun ha => refused_of_leadsTo (privileged_intro (P := (LeadsTo · _ s)) hs (storePair_refused h ha rd))⟩

/-! ### A refused second access (R80, R132, R136, R154) -/

/-- STDF with a ready FPU. -/
theorem exec_stdf_ready {s : State} {rd rs1 : Reg} {o2 : Operand2} (hr : s.fpReady)
    (ha : (effectiveAddress rs1 o2 s).extractLsb' 0 3 = 0#3) :
    exec (.stdf rd rs1 o2) s = storeTwo s.dataAsi (effectiveAddress rs1 o2 s) (s.freg (rd &&& 30#5))
      (s.freg (rd ||| 1#5)) (fpEnds [] State.advance) (s.emit (.launchFp s.ir s.pc)) := by
  rw [← fpSupplies_ready hr 0 (s.freg (rd &&& 30#5)), ← fpSupplies_ready hr 1 (s.freg (rd ||| 1#5))]
  obtain ⟨hef, hfp, hpend, _⟩ := hr
  exact fpMemory_launches hef hfp hpend (aligned_double_of ha) _

/-- STDC with a ready coprocessor. -/
theorem exec_stdc_ready {s : State} {rd rs1 : Reg} {o2 : Operand2} (hr : s.cpReady)
    (ha : (effectiveAddress rs1 o2 s).extractLsb' 0 3 = 0#3) :
    exec (.stdc rd rs1 o2) s = storeTwo s.dataAsi (effectiveAddress rs1 o2 s) (s.creg (rd &&& 30#5))
      (s.creg (rd ||| 1#5)) (cpEnds [] State.advanceCp) (s.emit (.launchCp s.ir s.pc)) := by
  rw [← cpSupplies_ready hr 0 (s.creg (rd &&& 30#5)), ← cpSupplies_ready hr 1 (s.creg (rd ||| 1#5))]
  obtain ⟨hec, hcp, hpend, _⟩ := hr
  exact cpMemory_launches hec hcp hpend (aligned_double_of ha) _

/-- Settles O41: the second access of a load or atomic comes before its register is written, and of a store after the
first word has gone out. -/
theorem refusedSecondAccess : Obligations.RefusedSecondAccess := by
  refine ⟨fun s rd rs1 o2 => ?_, fun s rd rs1 rs2 asi hs => ?_⟩
  · intro ea asi
    refine ⟨fun ha hg hr => ?_, fun h => ?_, fun ha hg hr => ?_⟩
    · exact ⟨refused_of_leadsTo (loadPair_refused (.inr ⟨hg, hr⟩) ha rd),
        fun hon hp => lddf_refused hon hp ha (.inr ⟨hg, hr⟩), fun hon hp => lddc_refused hon hp ha (.inr ⟨hg, hr⟩)⟩
    · exact ⟨refused_of_leadsTo (loadStore_refused h (putReg rd)),
        fun ha => refused_of_leadsTo (swapWord_refused h ha rd)⟩
    · have hfp (v w finish) := storeTwo_secondRefused (s := s.emit (.launchFp s.ir s.pc)) hg hr v w finish
      have hcp (v w finish) := storeTwo_secondRefused (s := s.emit (.launchCp s.ir s.pc)) hg hr v w finish
      exact ⟨refusedStore_of_secondRefused ha (storePair_secondRefused hg hr ha rd),
        fun hready => refusedStore_of_secondRefused ha (exec_stdf_ready hready ha ▸ hfp _ _ _),
        fun hready => refusedStore_of_secondRefused ha (exec_stdc_ready hready ha ▸ hcp _ _ _),
        fun _ _ _ hs hon hq => refusedStore_of_secondRefused ha (exec_stdfq_cons hs hon ha hq ▸ hfp _ _ _),
        fun _ _ _ hs hon hq => refusedStore_of_secondRefused ha (exec_stdcq_cons hs hon ha hq ▸ hcp _ _ _)⟩
  · intro ea
    refine ⟨fun ha hg hr => ?_, fun h => ⟨?_, fun ha => ?_⟩, fun ha hg hr => ?_⟩
    · exact refused_of_leadsTo (privileged_intro (P := (LeadsTo · _ s)) hs (loadPair_refused (.inr ⟨hg, hr⟩) ha rd))
    · exact refused_of_leadsTo (privileged_intro (P := (LeadsTo · _ s)) hs (loadStore_refused h (putReg rd)))
    · exact refused_of_leadsTo (privileged_intro (P := (LeadsTo · _ s)) hs (swapWord_refused h ha rd))
    · exact refusedStore_of_secondRefused ha
        (privileged_intro (P := (SecondRefused · s asi _ _)) hs (storePair_secondRefused hg hr ha rd))

/-! ### A refused fetch (R79, R337) -/

theorem busFetch_refused {s : State} (h : s.pins.fetchMexc = true ∨ regionKind s.platform s.fetchAsi s.pc = .absent) :
    busFetch s = .exception s.afterFetch := by
  rw [busFetch]
  rcases h with h | h
  · simp [h]
  · simp [h]

/-- Neither annulled nor interrupted, the instruction at PC takes the step. -/
theorem step_instruction {s : State} (hrun : s.running) (hann : s.annulNext = false) (hp : s.sample.unheld)
    (hint : ¬ InterruptRequested s s.sample) : step s = instructionStep exec s.atStep := by
  have hstep : step s = executeStep exec s.nextSample.settleHwerror :=
    sampledStep_execute (s := s.nextSample) hrun hp
  obtain ⟨_, _, _, _, hstill⟩ := hp
  have hnot : s.atStep.interruptDue = false := by
    rw [← Bool.not_eq_true, interruptDue_iff]; exact hint
  have hann' : s.atStep.annulNext = false := hann
  rw [hstep, nextSample_of_still hstill]
  change executeStep exec s.atStep = _
  simp [executeStep, hnot, hann']

/-- Settles O21: with no hardware error reported the refused fetch is what the instruction at PC meets first. -/
theorem refusedFetchTraps : Obligations.RefusedFetchTraps := by
  intro s hrun hann hp hint herr h
  have hfetch : busFetch s.atStep = .exception s.atStep.afterFetch := busFetch_refused h
  have hnone : topError s.atStep.afterFetch.pins.errors = none := (congrArg topError herr).trans rfl
  have htrap : step s = raise .instructionAccess s.atStep.afterFetch := by
    rw [step_instruction hrun hann hp hint, instructionStep, hfetch]
    simp only [hnone]
  rw [htrap]
  exact raise_endsAs (u := s.atStep.afterFetch) (s := s.fetched) rfl .instructionAccess

end Sys2Proof.Machine
end

section
/-! PROOF. Single accesses and fetches at a device (O42). -/

namespace Sys2Proof.Machine

/-! ### The data lines (R60, R64, R428) -/

/-- A field of a word, sign-extended, is the word shifted up to its top and back down. -/
theorem signExtend_extractLsb' (v : Word) {k n : Nat} (hn : 0 < n) (h : k + n ≤ 32) :
    (v.extractLsb' k n).signExtend 32 = (v <<< (32 - n - k)).sshiftRight (32 - n) := by
  apply BitVec.eq_of_getLsbD_eq
  intro i hi
  rw [BitVec.getLsbD_signExtend, BitVec.getLsbD_sshiftRight, BitVec.msb_eq_getLsbD_last, BitVec.msb_eq_getLsbD_last]
  simp only [BitVec.getLsbD_extractLsb', BitVec.getLsbD_shiftLeft]
  by_cases hin : i < n
  · have hbit : 32 - n + i - (32 - n - k) = k + i := by omega
    have hwithin : 32 - n + i < 32 := by omega
    have habove : ¬ 32 - n + i < 32 - n - k := by omega
    simp [hi, hin, hbit, hwithin, habove, Nat.not_le.2 hi]
  · have hsign : 32 - 1 - (32 - n - k) = k + (n - 1) := by omega
    have hbeyond : ¬ 32 - n + i < 32 := by omega
    have habove : ¬ 32 - 1 < 32 - n - k := by omega
    have hlast : n - 1 < n := by omega
    simp [hi, hin, hsign, hbeyond, habove, hlast, Nat.not_le.2 hi]

theorem extractLsb'_ushiftRight (v : Word) (k n : Nat) : (v >>> k).extractLsb' 0 n = v.extractLsb' k n := by
  apply BitVec.eq_of_getLsbD_eq
  intro i hi
  simp [hi]

/-- The low two bits of an address. -/
theorem toNat_place (a : Word) : (a.extractLsb' 0 2).toNat = a.toNat % 4 := by
  simp [BitVec.extractLsb'_toNat]

theorem aligned_half_iff (a : Word) : a.toNat % 2 = 0 ↔ aligned .half a = true := by
  rw [aligned, beq_iff_eq, ← BitVec.toNat_inj]
  simp [BitVec.extractLsb'_toNat]

theorem aligned_word_iff (a : Word) : a.toNat % 4 = 0 ↔ aligned .word a = true := by
  rw [aligned, beq_iff_eq, ← BitVec.toNat_inj]
  simp [BitVec.extractLsb'_toNat]

/-- The byte on the data lines that an address names. -/
theorem fromLanes_byte (a v : Word) :
    fromLanes .byte a v = (v.extractLsb' (8 * (3 - a.toNat % 4)) 8).setWidth 32 := by
  have hplace : 24 - 8 * (a.toNat % 4) = 8 * (3 - a.toNat % 4) := by omega
  rw [fromLanes, extractLsb'_ushiftRight, toNat_place, hplace]

/-- The halfword on the data lines that an aligned address names. -/
theorem fromLanes_half {a : Word} (ha : a.toNat % 2 = 0) (v : Word) :
    fromLanes .half a v = (v.extractLsb' (8 * (2 - a.toNat % 4)) 16).setWidth 32 := by
  have hplace : 16 - 16 * (a.extractLsb' 1 1).toNat = 8 * (2 - a.toNat % 4) := by
    rw [BitVec.extractLsb'_toNat, Nat.shiftRight_eq_div_pow]
    omega
  rw [fromLanes, extractLsb'_ushiftRight, hplace]

theorem fromLanes_byte_zero (a v : Word) : fromLanes .byte a v = (v >>> (8 * (3 - a.toNat % 4))) &&& 0xFF#32 := by
  rw [fromLanes_byte, setWidth_byte]

theorem fromLanes_byte_sign (a v : Word) :
    sextByte (fromLanes .byte a v) = (v <<< (8 * (a.toNat % 4))).sshiftRight 24 := by
  have hshift : 32 - 8 - 8 * (3 - a.toNat % 4) = 8 * (a.toNat % 4) := by omega
  rw [fromLanes_byte, sextByte_setWidth, signExtend_extractLsb' v (by decide) (by omega), hshift]

theorem fromLanes_half_zero {a : Word} (ha : a.toNat % 2 = 0) (v : Word) :
    fromLanes .half a v = (v >>> (8 * (2 - a.toNat % 4))) &&& 0xFFFF#32 := by
  rw [fromLanes_half ha, setWidth_half]

theorem fromLanes_half_sign {a : Word} (ha : a.toNat % 2 = 0) (v : Word) :
    sextHalf (fromLanes .half a v) = (v <<< (8 * (a.toNat % 4))).sshiftRight 16 := by
  have hshift : 32 - 16 - 8 * (2 - a.toNat % 4) = 8 * (a.toNat % 4) := by omega
  rw [fromLanes_half ha, sextHalf_setWidth, signExtend_extractLsb' v (by decide) (by omega), hshift]

/-! ### Accesses at a device (R73, R429) -/

/-- The word on the data lines when a device answers the next read: what it drives, free where the environment gives
none. -/
def State.deviceWord (s : State) : Word :=
  match s.nextAnswer with
  | .data w => w
  | .ready | .mexc | .reset => Config.freeWord s.draws

theorem deviceWord_of_data {s : State} {w : Word} (h : s.nextAnswer = .data w) : s.deviceWord = w := by
  rw [State.deviceWord, h]

theorem fromDevice_loadSuspect (given : Option Word) (s : State) :
    (fromDevice given s).2.loadSuspect = s.loadSuspect := by
  cases given <;> rfl

/-- The IU takes what a device drives where the data is good. -/
theorem takeData_device {asi : Asi} {a : Word} {s : State} (hk : regionKind s.platform asi a = .device)
    (hl : s.loadSuspect = false) (z : AccessSize) (given : Option Word) :
    takeData z a (answerRead given asi a z s)
      = .ok (fromLanes z a (fromDevice given s).1) (fromDevice given s).2 := by
  simp [answerRead, hk, takeData, fromDevice_loadSuspect, hl]

section Device

variable {z : AccessSize} {asi : Asi} {a : Word} {s : State} (hk : regionKind s.platform asi a = .device)
  (hpass : BusAnswer.passes s.nextAnswer)

include hk hpass

/-- A read that the environment lets through to a device, good data being taken. -/
theorem busRead_device (hl : s.loadSuspect = false) (locked atomic : Bool) :
    ∃ u, u.visible = s.visible ∧ busRead asi a z locked atomic s = .ok (fromLanes z a s.deviceWord) u := by
  have taken := takeData_device (s := s.popAnswer.emit (readCycle asi a z locked atomic)) hk hl z
  unfold busRead State.deviceWord
  cases hn : s.nextAnswer with
  | ready => exact ⟨(s.popAnswer.emit (readCycle asi a z locked atomic)).drawn, rfl, taken none⟩
  | data w => exact ⟨s.popAnswer.emit (readCycle asi a z locked atomic), rfl, taken (some w)⟩
  | mexc | reset => rw [hn] at hpass; exact hpass.elim

theorem busWrite_device (v : Word) (atomic : Bool) :
    busWrite asi a z v atomic s = .ok 0#32 (s.popAnswer.emit (writeCycle asi a z v atomic)) := by
  unfold busWrite
  cases hn : s.nextAnswer with
  | ready | data w => simp [answerWrite, hk, writeCycle]
  | mexc | reset => rw [hn] at hpass; exact hpass.elim

theorem loadReg_device (hl : s.loadSuspect = false) (ha : aligned z a = true) (rd : Reg) (f : Word → Word) :
    EndsWith (loadReg z asi a (fun v => putReg rd (f v)) s) s rd (f (fromLanes z a s.deviceWord)) s.psr s.y := by
  obtain ⟨u, hu, e⟩ := busRead_device (z := z) hk hpass hl false false
  rw [loadReg, whenAligned_of_aligned ha, loadOne, e, andThen_ok]
  exact putReg_endsWith rd _ hu

theorem storeReg_device (ha : aligned z a = true) (rd : Reg) :
    storeReg z asi a rd s = .next (s.popAnswer.emit (writeCycle asi a z (s.reg rd) false)).advance := by
  rw [storeReg, whenAligned_of_aligned ha, storeOne, busWrite_device hk hpass, andThen_ok]

end Device

/-! ### A fetch from a device -/

theorem busFetch_device {s : State} {w : Word} (hm : s.pins.fetchMexc = false)
    (hk : regionKind s.platform s.fetchAsi s.pc = .device) (hd : s.pins.fetchData = some w) :
    busFetch s = .ok w s.afterFetch := by
  simp [busFetch, hm, hk, hd, fromDevice]

/-- No word that is run takes bad data where nothing is suspect. -/
theorem runWord_badLoad {w : Word} {s t : State} (hl : s.loadSuspect = false) (h : runWord exec w s = .next t) :
    t.badLoad = s.badLoad := by
  unfold runWord at h
  split at h
  · exact exec_badLoad (s := { s with ir := w }) hl h
  · obtain rfl := raise_next.1 h
    have hgivens := raiseAt_givens s.pc s.npc .illegalInstruction { s with ir := w }
    obtain ⟨_, _, _, hbad⟩ := (givens_eq_iff _ _).1 hgivens
    exact hbad hl

/-- A fetched word runs with nothing in its way: no hardware error is reported and none can follow. -/
theorem instructionStep_runs {s : State} {w : Word} (hf : s.pins.faultless) (hbad : s.badLoad = false)
    (hfetch : busFetch s = .ok w s.afterFetch) : instructionStep exec s = runWord exec w s.afterFetch := by
  have herr : topError s.afterFetch.instructionErrors = none := by
    rw [instructionErrors_of_faultless (s := s.afterFetch) hf]; rfl
  have hload : s.afterFetch.loadSuspect = false := loadSuspect_of_faultless hf
  rw [instructionStep, hfetch]
  simp only [herr]
  exact lateError_none fun t ht => (runWord_badLoad hload ht).trans hbad

/-- Settles O42: a device answers an access on the data lines, from which a load takes its part and to which a store
puts its own. -/
theorem deviceAccesses : Obligations.DeviceAccesses := by
  refine ⟨fun s rd rs1 o2 => ?_, fun s w hrun hann hp hf hint hk hd => ?_⟩
  · intro ea answer hk hpass hl
    have hanswer : s.nextAnswer = answer := nextAnswer_eq s
    rw [← hanswer] at hpass
    have load {z} (ha : aligned z ea = true) (f) := loadReg_device hk hpass hl ha rd f
    refine ⟨⟨s.deviceWord, fun w hw => deviceWord_of_data (hanswer.trans hw), ?_, ?_, fun ha => ⟨?_, ?_⟩, fun ha => ?_⟩,
      fun i hi => ?_⟩
    · rw [← fromLanes_byte_zero]
      exact load (z := .byte) rfl id
    · rw [← fromLanes_byte_sign]
      exact load (z := .byte) rfl sextByte
    · rw [← fromLanes_half_zero ha]
      exact load ((aligned_half_iff ea).1 ha) id
    · rw [← fromLanes_half_sign ha]
      exact load ((aligned_half_iff ea).1 ha) sextHalf
    · exact load ((aligned_word_iff ea).1 ha) id
    · have store {z} (ha : aligned z ea = true) := storeReg_device hk hpass ha rd
      rcases hi with rfl | ⟨ha, rfl⟩ | ⟨ha, rfl⟩
      · exact ⟨_, _, store (z := .byte) rfl, .of_record rfl, rfl, rfl, rfl, rfl, nofun⟩
      · exact ⟨_, _, store ((aligned_half_iff ea).1 ha), .of_record rfl, rfl, rfl, rfl, rfl, nofun⟩
      · exact ⟨_, _, store ((aligned_word_iff ea).1 ha), .of_record rfl, rfl, rfl, rfl, rfl, fun _ => rfl⟩
  · obtain ⟨_, hmexc, _⟩ := id hf
    have hfetch : busFetch s.atStep = .ok w s.atStep.afterFetch := busFetch_device hmexc hk hd
    rw [step_instruction hrun hann hp hint, instructionStep_runs hf rfl hfetch]
    rfl

end Sys2Proof.Machine
end

section
/-! PROOF. The decoder and the encoder (O1 to O4): a written word is read in the table of its op, each table answers
only well-formed instructions, and each refuses exactly its reserved rows. -/

namespace Sys2Proof

open BitVec

/-! ### The table in which a written word is read (R97 to R100) -/

theorem decode_format2 (rd : Reg) (op2 : BitVec 3) (low : BitVec 22) :
    decode (format2 rd op2 low) = decodeFormat2 (format2 rd op2 low) := by
  simp [decode]

theorem decode_formatBranch (a : Bool) (cond : BitVec 4) (op2 : BitVec 3) (disp22 : BitVec 22) :
    decode (formatBranch a cond op2 disp22) = decodeFormat2 (formatBranch a cond op2 disp22) := by
  simp [decode]

theorem decode_operate (rd : Reg) (op3 : BitVec 6) (rs1 : Reg) (t : BitVec 14) :
    decode (format3 0b10#2 rd op3 rs1 t) = decodeOperate (format3 0b10#2 rd op3 rs1 t) := by
  simp [decode]

theorem decode_memory (rd : Reg) (op3 : BitVec 6) (rs1 : Reg) (t : BitVec 14) :
    decode (format3 0b11#2 rd op3 rs1 t) = decodeMemory (format3 0b11#2 rd op3 rs1 t) := by
  simp [decode]

theorem decode_sethi (rd : Reg) (imm22 : BitVec 22) :
    decode (format2 rd 0b100#3 imm22) = .ok (decodeSethi (format2 rd 0b100#3 imm22)) := by
  simp [decode_format2, decodeFormat2]

theorem decode_bicc (a : Bool) (cond : BitVec 4) (disp22 : BitVec 22) :
    decode (formatBranch a cond 0b010#3 disp22) = .ok (decodeBicc (formatBranch a cond 0b010#3 disp22)) := by
  simp [decode_formatBranch, decodeFormat2]

theorem decode_fbfcc (a : Bool) (cond : BitVec 4) (disp22 : BitVec 22) :
    decode (formatBranch a cond 0b110#3 disp22) = .ok (decodeFbfcc (formatBranch a cond 0b110#3 disp22)) := by
  simp [decode_formatBranch, decodeFormat2]

theorem decode_cbccc (a : Bool) (cond : BitVec 4) (disp22 : BitVec 22) :
    decode (formatBranch a cond 0b111#3 disp22) = .ok (decodeCbccc (formatBranch a cond 0b111#3 disp22)) := by
  simp [decode_formatBranch, decodeFormat2]

theorem decode_fpop1 (rd rs1 : Reg) (t : BitVec 14) :
    decode (format3 0b10#2 rd 0b110100#6 rs1 t) = .ok (decodeFpop1 (format3 0b10#2 rd 0b110100#6 rs1 t)) := by
  simp [decode_operate, decodeOperate]

theorem decode_fpop2 (rd rs1 : Reg) (t : BitVec 14) :
    decode (format3 0b10#2 rd 0b110101#6 rs1 t) = .ok (decodeFpop2 (format3 0b10#2 rd 0b110101#6 rs1 t)) := by
  simp [decode_operate, decodeOperate]

theorem decode_ticc (rd rs1 : Reg) (t : BitVec 14) :
    decode (format3 0b10#2 rd 0b111010#6 rs1 t) = .ok (decodeTicc (format3 0b10#2 rd 0b111010#6 rs1 t)) := by
  simp [decode_operate, decodeOperate]

/-- An alternate-space form is written with i = 0 (R107). -/
theorem alternate_format3 (op : BitVec 2) (rd : Reg) (op3 : BitVec 6) (rs1 rs2 : Reg) (asi : Asi)
    (mk : Reg → Reg → Reg → Asi → Instr) :
    alternate (format3 op rd op3 rs1 (alternateBits asi rs2)) mk = .ok (mk rd rs1 rs2 asi) := by
  simp [alternate]

/-! ### SETHI, NOP and PFCHECK (R110) -/

theorem isCheckField_check (sig : BitVec 16) : isCheckField 0#5 (0b011111#6 ++ sig) = true := by
  have hcode : (0b011111#6 ++ sig).extractLsb' 16 6 = 0b011111#6 := by
    rw [extractLsb'_append_eq_of_le (by decide)]
    exact extractLsb'_eq_self
  simp [isCheckField, hcode]

theorem sig_check (sig : BitVec 16) : (0b011111#6 ++ sig : BitVec 22).extractLsb' 0 16 = sig := by
  rw [extractLsb'_append_eq_of_add_le (by decide)]
  exact extractLsb'_eq_self

/-- No word is both NOP and PFCHECK. -/
theorem isNopField_of_isCheckField {rd : Reg} {imm22 : BitVec 22} (h : isCheckField rd imm22 = true) :
    isNopField rd imm22 = false := by
  by_contra hnop
  obtain ⟨rfl, rfl⟩ : rd = 0#5 ∧ imm22 = 0#22 := by simpa [isNopField] using hnop
  exact absurd h (by decide)

/-! ### An opf that names no operation (R104, R105) -/

theorem decodeFpop1_of_unnamed {w : Word} (h : opfField w ∉ namedFpop1) :
    decodeFpop1 w = .fpop1 (rdField w) (rs1Field w) (opfField w) (rs2Field w) := by
  unfold decodeFpop1
  split
  case h_31 => rfl
  all_goals exact absurd (by rw [‹opfField w = _›]; decide) h

theorem decodeFpop2_of_unnamed {w : Word} (h : opfField w ∉ namedFpop2) :
    decodeFpop2 w = .fpop2 (rdField w) (rs1Field w) (opfField w) (rs2Field w) := by
  unfold decodeFpop2
  split
  case h_7 => rfl
  all_goals exact absurd (by rw [‹opfField w = _›]; decide) h

/-! ### Decoding an encoded instruction -/

/-- The word of an instruction is read in the row it was written from, and each operand in its own field. Only the SETHI
and the bare FPops need well-formedness: their rows come after those of the words that have a name of their own. -/
theorem decode_encode (i : Instr) (h : i.wellFormed = true) : decode (encode i) = .ok i := by
  cases i with
  | call disp30 => simp [decode]
  | unimp const22 => simp [encode, decode_format2, decodeFormat2]
  | sethi rd imm22 =>
    obtain ⟨hnop, hcheck⟩ : isNopField rd imm22 = false ∧ isCheckField rd imm22 = false := by
      simpa [Instr.wellFormed] using h
    simp [encode, decode_sethi, decodeSethi, hnop, hcheck]
  | nop => simp [encode, decode_sethi, decodeSethi, isNopField]
  | pfcheck sig =>
    have hcheck := isCheckField_check sig
    simp [encode, decode_sethi, decodeSethi, hcheck, isNopField_of_isCheckField hcheck, sig_check]
  | bn | be | ble | bl | bleu | bcs | bneg | bvs | ba | bne | bg | bge | bgu | bcc | bpos | bvc =>
    rw [encode, decode_bicc, decodeBicc, condField_formatBranch, aField_formatBranch, low22Field_formatBranch]
    rfl
  | fbn | fbne | fblg | fbul | fbl | fbug | fbg | fbu | fba | fbe | fbue | fbge | fbuge | fble | fbule | fbo =>
    rw [encode, decode_fbfcc, decodeFbfcc, condField_formatBranch, aField_formatBranch, low22Field_formatBranch]
    rfl
  | cbn | cb123 | cb12 | cb13 | cb1 | cb23 | cb2 | cb3 | cba | cb0 | cb03 | cb02 | cb023 | cb01 | cb013 | cb012 =>
    rw [encode, decode_cbccc, decodeCbccc, condField_formatBranch, aField_formatBranch, low22Field_formatBranch]
    rfl
  | tn | te | tle | tl | tleu | tcs | tneg | tvs | ta | tne | tg | tge | tgu | tcc | tpos | tvc =>
    rw [encode, decode_ticc, decodeTicc, condField_format3, cond_ticc, rs1Field_format3, operand2Field_format3]
    rfl
  | fmovs | fnegs | fabss | fsqrts | fsqrtd | fsqrtx | fadds | faddd | faddx | fsubs | fsubd | fsubx | fmuls | fmuld
  | fmulx | fdivs | fdivd | fdivx | fitos | fdtos | fxtos | fitod | fstod | fxtod | fitox | fstox | fdtox | fstoi
  | fdtoi | fxtoi =>
    rw [encode, decode_fpop1, decodeFpop1, opfField_format3, opf_opfBits, rdField_format3, rs1Field_format3,
      rs2Field_format3, rs2_opfBits]
    rfl
  | fcmps | fcmpd | fcmpx | fcmpes | fcmped | fcmpex =>
    rw [encode, decode_fpop2, decodeFpop2, opfField_format3, opf_opfBits, rs1Field_format3, rs2Field_format3,
      rs2_opfBits]
    rfl
  | fpop1 rd rs1 opf rs2 =>
    have hopf : opf ∉ namedFpop1 := by simpa [Instr.wellFormed] using h
    rw [encode, decode_fpop1, decodeFpop1_of_unnamed] <;> simp [hopf]
  | fpop2 rd rs1 opf rs2 =>
    have hopf : opf ∉ namedFpop2 := by simpa [Instr.wellFormed] using h
    rw [encode, decode_fpop2, decodeFpop2_of_unnamed] <;> simp [hopf]
  | cpop1 | cpop2 =>
    rw [encode, decode_operate, decodeOperate, op3Field_format3, opfField_format3, opf_opfBits, rdField_format3,
      rs1Field_format3, rs2Field_format3, rs2_opfBits]
    rfl
  | add | and | or | xor | sub | andn | orn | xnor | addx | subx | addcc | andcc | orcc | xorcc | subcc | andncc
  | orncc | xnorcc | addxcc | subxcc | taddcc | tsubcc | taddcctv | tsubcctv | mulscc | wry | wrpsr | wrwim | wrtbr
  | jmpl | rett | iflush | save | restore =>
    rw [encode, decode_operate, decodeOperate, op3Field_format3, rdField_format3, rs1Field_format3,
      operand2Field_format3]
    rfl
  | sll | srl | sra =>
    rw [encode, decode_operate, decodeOperate, op3Field_format3, rdField_format3, rs1Field_format3,
      shiftCountField_format3]
    rfl
  | rdy | rdpsr | rdwim | rdtbr =>
    rw [encode, decode_operate, decodeOperate, op3Field_format3, rdField_format3]
    rfl
  | lda | lduba | lduha | ldda | sta | stba | stha | stda | ldsba | ldsha | ldstuba | swapa =>
    rw [encode, decode_memory, decodeMemory, op3Field_format3]
    exact alternate_format3 _ _ _ _ _ _ _
  | ld | ldub | lduh | ldd | st | stb | sth | std | ldsb | ldsh | ldstub | swap | ldf | ldfsr | lddf | stf | stfsr
  | stdfq | stdf | ldc | ldcsr | lddc | stc | stcsr | stdcq | stdc =>
    rw [encode, decode_memory, decodeMemory, op3Field_format3, rdField_format3, rs1Field_format3,
      operand2Field_format3]
    rfl

/-! ### Well-formed answers (R110, R114) -/

/-- An answer of the decoder is a refusal or a well-formed instruction. -/
def WellFormedAnswer (r : Except Illegal Instr) : Prop := ∀ i, r = .ok i → i.wellFormed = true

theorem wellFormedAnswer_ok {i : Instr} (h : i.wellFormed = true) : WellFormedAnswer (.ok i) :=
  fun _ e => Except.ok.inj e ▸ h

theorem wellFormedAnswer_error (e : Illegal) : WellFormedAnswer (.error e) := nofun

theorem decodeBicc_wellFormed (w : Word) : (decodeBicc w).wellFormed = true := by
  unfold decodeBicc
  split <;> rfl

theorem decodeFbfcc_wellFormed (w : Word) : (decodeFbfcc w).wellFormed = true := by
  unfold decodeFbfcc
  split <;> rfl

theorem decodeCbccc_wellFormed (w : Word) : (decodeCbccc w).wellFormed = true := by
  unfold decodeCbccc
  split <;> rfl

theorem decodeTicc_wellFormed (w : Word) : (decodeTicc w).wellFormed = true := by
  unfold decodeTicc
  split <;> rfl

theorem decodeSethi_wellFormed (w : Word) : (decodeSethi w).wellFormed = true := by
  unfold decodeSethi
  split
  next => rfl
  next hnop =>
    split
    next => rfl
    next hcheck => simp [Instr.wellFormed, hnop, hcheck]

/-- The last row is reached only by an opf that none of the rows before it names. -/
theorem decodeFpop1_wellFormed (w : Word) : (decodeFpop1 w).wellFormed = true := by
  unfold decodeFpop1
  split
  case h_31 => simp_all [Instr.wellFormed, namedFpop1]
  all_goals rfl

/-- As in FPop1. -/
theorem decodeFpop2_wellFormed (w : Word) : (decodeFpop2 w).wellFormed = true := by
  unfold decodeFpop2
  split
  case h_7 => simp_all [Instr.wellFormed, namedFpop2]
  all_goals rfl

theorem alternate_wellFormed (w : Word) {mk : Reg → Reg → Reg → Asi → Instr}
    (h : ∀ rd rs1 rs2 asi, (mk rd rs1 rs2 asi).wellFormed = true) : WellFormedAnswer (alternate w mk) := by
  unfold alternate
  split
  · exact wellFormedAnswer_error _
  · exact wellFormedAnswer_ok (h _ _ _ _)

theorem decodeFormat2_wellFormed (w : Word) : WellFormedAnswer (decodeFormat2 w) := by
  unfold decodeFormat2
  split
  · exact wellFormedAnswer_ok rfl
  · exact wellFormedAnswer_ok (decodeBicc_wellFormed w)
  · exact wellFormedAnswer_ok (decodeSethi_wellFormed w)
  · exact wellFormedAnswer_ok (decodeFbfcc_wellFormed w)
  · exact wellFormedAnswer_ok (decodeCbccc_wellFormed w)
  · exact wellFormedAnswer_error _

/-- The rows of op3 = 110100, 110101 and 111010 have a table of their own; the last refuses. -/
theorem decodeOperate_wellFormed (w : Word) : WellFormedAnswer (decodeOperate w) := by
  unfold decodeOperate
  split
  case h_37 => exact wellFormedAnswer_ok (decodeFpop1_wellFormed w)
  case h_38 => exact wellFormedAnswer_ok (decodeFpop2_wellFormed w)
  case h_43 => exact wellFormedAnswer_ok (decodeTicc_wellFormed w)
  case h_47 => exact wellFormedAnswer_error _
  all_goals exact wellFormedAnswer_ok rfl

/-- Twelve rows are alternate-space forms; the last refuses. -/
theorem decodeMemory_wellFormed (w : Word) : WellFormedAnswer (decodeMemory w) := by
  unfold decodeMemory
  split
  case h_13 | h_14 | h_15 | h_16 | h_17 | h_18 | h_19 | h_20 | h_21 | h_22 | h_23 | h_24 =>
    exact alternate_wellFormed w fun _ _ _ _ => rfl
  case h_39 => exact wellFormedAnswer_error _
  all_goals exact wellFormedAnswer_ok rfl

theorem decode_wellFormed (w : Word) : WellFormedAnswer (decode w) := by
  unfold decode
  split
  · exact decodeFormat2_wellFormed w
  · exact wellFormedAnswer_ok rfl
  · exact decodeOperate_wellFormed w
  · exact decodeMemory_wellFormed w

/-! ### Refusals (R107, R108)

The last row of a table is reached by the values that no row before it names, and these are the reserved ones: that the
assigned and the reserved values are together all values of the field is what `decide` checks. -/

/-- The values of op2 that name no instruction (R98). -/
def reservedOp2 : List (BitVec 3) := [0b001#3, 0b011#3, 0b101#3]

/-- The values of op2 that name one. -/
def assignedOp2 : List (BitVec 3) := [0b000#3, 0b010#3, 0b100#3, 0b110#3, 0b111#3]

/-- The values of op3 with op = 10 that name no instruction (R99). -/
def reservedOperate : List (BitVec 6) :=
  [0b001001#6, 0b001010#6, 0b001011#6, 0b001101#6, 0b001110#6, 0b001111#6, 0b011001#6, 0b011010#6, 0b011011#6,
   0b011101#6, 0b011110#6, 0b011111#6, 0b101100#6, 0b101101#6, 0b101110#6, 0b101111#6, 0b111110#6, 0b111111#6]

/-- The values of op3 with op = 10 that name one. -/
def assignedOperate : List (BitVec 6) :=
  [0b000000#6, 0b000001#6, 0b000010#6, 0b000011#6, 0b000100#6, 0b000101#6, 0b000110#6, 0b000111#6, 0b001000#6,
   0b001100#6, 0b010000#6, 0b010001#6, 0b010010#6, 0b010011#6, 0b010100#6, 0b010101#6, 0b010110#6, 0b010111#6,
   0b011000#6, 0b011100#6, 0b100000#6, 0b100001#6, 0b100010#6, 0b100011#6, 0b100100#6, 0b100101#6, 0b100110#6,
   0b100111#6, 0b101000#6, 0b101001#6, 0b101010#6, 0b101011#6, 0b110000#6, 0b110001#6, 0b110010#6, 0b110011#6,
   0b110100#6, 0b110101#6, 0b110110#6, 0b110111#6, 0b111000#6, 0b111001#6, 0b111010#6, 0b111011#6, 0b111100#6,
   0b111101#6]

/-- The values of op3 with op = 11 that name no instruction (R100; D12, log 30). -/
def reservedMemory : List (BitVec 6) :=
  [0b001000#6, 0b001011#6, 0b001100#6, 0b001110#6, 0b011000#6, 0b011011#6, 0b011100#6, 0b011110#6, 0b100010#6,
   0b101000#6, 0b101001#6, 0b101010#6, 0b101011#6, 0b101100#6, 0b101101#6, 0b101110#6, 0b101111#6, 0b110010#6,
   0b111000#6, 0b111001#6, 0b111010#6, 0b111011#6, 0b111100#6, 0b111101#6, 0b111110#6, 0b111111#6]

/-- The alternate-space forms (R107). -/
def alternateMemory : List (BitVec 6) :=
  [0b010000#6, 0b010001#6, 0b010010#6, 0b010011#6, 0b010100#6, 0b010101#6, 0b010110#6, 0b010111#6, 0b011001#6,
   0b011010#6, 0b011101#6, 0b011111#6]

/-- The values of op3 with op = 11 that name an instruction whatever i is. -/
def assignedMemory : List (BitVec 6) :=
  [0b000000#6, 0b000001#6, 0b000010#6, 0b000011#6, 0b000100#6, 0b000101#6, 0b000110#6, 0b000111#6, 0b001001#6,
   0b001010#6, 0b001101#6, 0b001111#6, 0b100000#6, 0b100001#6, 0b100011#6, 0b100100#6, 0b100101#6, 0b100110#6,
   0b100111#6, 0b110000#6, 0b110001#6, 0b110011#6, 0b110100#6, 0b110101#6, 0b110110#6, 0b110111#6]

theorem assigned_or_reserved_op2 : ∀ x, x ∈ assignedOp2 ∨ x ∈ reservedOp2 := by decide

theorem assigned_or_reserved_operate : ∀ x, x ∈ assignedOperate ∨ x ∈ reservedOperate := by decide

theorem assigned_or_reserved_memory :
    ∀ x, x ∈ assignedMemory ∨ x ∈ alternateMemory ∨ x ∈ reservedMemory := by decide

theorem decodeFormat2_error_iff (w : Word) : (∃ e, decodeFormat2 w = .error e) ↔ op2Field w ∈ reservedOp2 := by
  unfold decodeFormat2
  generalize op2Field w = x
  split
  case h_6 =>
    have hassigned : x ∉ assignedOp2 := by simp_all [assignedOp2]
    simpa using (assigned_or_reserved_op2 x).resolve_left hassigned
  all_goals simp [reservedOp2]

theorem decodeOperate_error_iff (w : Word) :
    (∃ e, decodeOperate w = .error e) ↔ op3Field w ∈ reservedOperate := by
  unfold decodeOperate
  generalize op3Field w = x
  split
  case h_47 =>
    have hassigned : x ∉ assignedOperate := by simp_all [assignedOperate]
    simpa using (assigned_or_reserved_operate x).resolve_left hassigned
  all_goals simp [reservedOperate]

theorem alternate_error_iff (w : Word) (mk : Reg → Reg → Reg → Asi → Instr) :
    (∃ e, alternate w mk = .error e) ↔ iField w = true := by
  unfold alternate
  split <;> simp [*]

theorem decodeMemory_error_iff (w : Word) : (∃ e, decodeMemory w = .error e) ↔
    op3Field w ∈ reservedMemory ∨ iField w = true ∧ op3Field w ∈ alternateMemory := by
  unfold decodeMemory
  generalize op3Field w = x
  split
  case h_39 =>
    have hassigned : x ∉ assignedMemory := by simp_all [assignedMemory]
    have halternate : x ∉ alternateMemory := by simp_all [alternateMemory]
    simpa [halternate] using (assigned_or_reserved_memory x).resolve_left hassigned
  all_goals simp [reservedMemory, alternateMemory, alternate_error_iff]

end Sys2Proof

namespace Sys2Proof.Machine

theorem op_eq_three : ∀ op : BitVec 2, op ≠ 0b00#2 → op ≠ 0b01#2 → op ≠ 0b10#2 → op = 0b11#2 := by decide

/-- The four clauses of the reserved words are those of the four values of op, of which 01 has none. -/
theorem decode_error_iff (w : Word) : (∃ e, decode w = .error e) ↔ ReservedWord w := by
  have hreserved : ReservedWord w ↔
      opField w = 0b00#2 ∧ op2Field w ∈ reservedOp2
      ∨ opField w = 0b10#2 ∧ op3Field w ∈ reservedOperate
      ∨ opField w = 0b11#2 ∧ op3Field w ∈ reservedMemory
      ∨ opField w = 0b11#2 ∧ iField w = true ∧ op3Field w ∈ alternateMemory := Iff.rfl
  rw [hreserved]
  unfold decode
  split
  next hop => simpa [hop] using decodeFormat2_error_iff w
  next hop => simp [hop]
  next hop => simpa [hop] using decodeOperate_error_iff w
  next h00 h01 h10 =>
    have hop : opField w = 0b11#2 := op_eq_three _ h00 h01 h10
    simpa [hop] using decodeMemory_error_iff w

theorem runWord_reserved {w : Word} (h : ReservedWord w) (s : State) :
    runWord exec w s = .next (raiseAt s.pc s.npc .illegalInstruction { s with ir := w }) := by
  obtain ⟨e, he⟩ := (decode_error_iff w).2 h
  rw [runWord, he]
  rfl

/-- Settles O2. -/
theorem encodedInstructionDecodes : Obligations.EncodedInstructionDecodes := decode_encode

/-- Settles O3: what `op`, and behind it each table, answers is well formed. -/
theorem decodedInstructionIsWellFormed : Obligations.DecodedInstructionIsWellFormed := decode_wellFormed

/-- Settles O4: the refusals of the four tables are the four clauses of the reserved words. -/
theorem reservedWordsAreIllegal : Obligations.ReservedWordsAreIllegal :=
  ⟨decode_error_iff, fun _ s h => runWord_reserved h s, fun _ _ => rfl⟩

/-- Settles O1, by running the decoder. -/
theorem writtenWordsDecode : Obligations.WrittenWordsDecode := by
  unfold Obligations.WrittenWordsDecode
  decide

end Sys2Proof.Machine
end

section
/-! PROOF. The arithmetic, logical and shift instructions (O23 to O28), and the comparisons the integer conditions make
after SUBcc (O30). -/

namespace Sys2Proof.Machine

/-! ### Writing r[rd] and icc (R190) -/

theorem setReg_setIcc (s : State) (i : Reg) (v : Word) (f : Icc) :
    (s.setReg i v).setIcc f = (s.setIcc f).setReg i v := by
  unfold State.setReg State.setRegIn
  split <;> rfl

/-- An instruction that writes r[rd] and icc in a state like `s` but for Y ends with that. -/
theorem writeRegCc_endsWith (s : State) (rd : Reg) (v : Word) (f : Icc) (y : Word) :
    EndsWith (writeRegCc rd v f { s with y := y }) s rd v { s.psr with icc := f } y := by
  rw [writeRegCc, setReg_setIcc]
  exact putReg_endsWith rd v rfl

/-! ### icc of a sum (R191, R192) -/

/-- The sum of two words and a carry, with the carry out of bit 31 in bit 32. -/
def wideSum (a b : Word) (cin : Bool) : BitVec 33 :=
  a.setWidth 33 + b.setWidth 33 + (BitVec.ofBool cin).setWidth 33

theorem wideSum_toNat (a b : Word) (cin : Bool) : (wideSum a b cin).toNat = a.toNat + b.toNat + cin.toNat := by
  have hc : cin.toNat ≤ 1 := cin.toNat_le
  simp only [wideSum, BitVec.toNat_add, BitVec.toNat_setWidth, BitVec.toNat_ofBool]
  omega

/-- The low 32 bits of the wide sum are the result. -/
theorem wideSum_setWidth (a b : Word) (cin : Bool) : (wideSum a b cin).setWidth 32 = addResult a b cin := by
  rw [wideSum, BitVec.setWidth_add _ _ (by decide), BitVec.setWidth_add _ _ (by decide)]
  simp [addResult]

theorem wideSum_bit31 (a b : Word) (cin : Bool) : (wideSum a b cin).getLsbD 31 = (addResult a b cin).msb := by
  rw [← wideSum_setWidth, BitVec.msb_setWidth]
  rfl

/-- Bit 32 of the wide sum is the carry. -/
theorem wideSum_bit32 (a b : Word) (cin : Bool) : (wideSum a b cin).getLsbD 32 = addCarry a b cin := by
  have hmsb : (wideSum a b cin).msb = addCarry a b cin := by rw [BitVec.msb_eq_decide, wideSum_toNat]; rfl
  rwa [BitVec.msb_eq_getLsbD_last] at hmsb

theorem addIcc_eq_sumIcc (a b : Word) (cin : Bool) : addIcc a b cin = sumIcc a b cin := by
  have hlow : (wideSum a b cin).extractLsb' 0 32 = addResult a b cin := by
    rw [← wideSum_setWidth]; exact (BitVec.setWidth_eq_extractLsb' (by decide)).symm
  rw [sumIcc, ← wideSum]
  simp only [hlow, wideSum_bit31, wideSum_bit32]
  rfl

/-! ### icc of a difference (R191, R193) -/

/-- The borrow by the bit formula of R193. -/
theorem subBorrow_eq_bits (a b : Word) (cin : Bool) : subBorrow a b cin =
    ((!a.msb && b.msb) || ((subResult a b cin).msb && (!a.msb || b.msb))) := by
  have hc : cin.toNat ≤ 1 := cin.toNat_le
  have hres : (subResult a b cin).toNat = (a.toNat + 2 ^ 33 - b.toNat - cin.toNat) % 2 ^ 32 := by
    simp only [subResult, BitVec.toNat_sub, BitVec.toNat_setWidth, BitVec.toNat_ofBool]
    omega
  rw [subBorrow, Bool.eq_iff_iff]
  simp only [BitVec.msb_eq_decide, hres, decide_eq_true_eq, Bool.or_eq_true, Bool.and_eq_true, Bool.not_eq_true',
    decide_eq_false_iff_not]
  omega

theorem subIcc_eq_differenceIcc (a b : Word) (cin : Bool) : subIcc a b cin = differenceIcc a b cin := by
  rw [subIcc, subBorrow_eq_bits]
  rfl

/-- Settles O23: the model's icc are those of the 33-bit sum and of the bit formulas. -/
theorem sumsAndDifferencesWithCodes : Obligations.SumsAndDifferencesWithCodes := by
  intro s rd rs1 o2
  simp only [← addIcc_eq_sumIcc, ← subIcc_eq_differenceIcc]
  have ends (v : Word) (f : Icc) := writeRegCc_endsWith s rd v f s.y
  exact ⟨ends _ _, ends _ _, ends _ _, ends _ _⟩

/-- Settles O24: all six write a value and the codes of that value. -/
theorem logicWithCodes : Obligations.LogicWithCodes := fun s rd _ _ =>
  have ends (v : Word) : EndsWith (writeRegCc rd v (logicIcc v) s) s rd v { s.psr with icc := plainIcc v } s.y :=
    writeRegCc_endsWith s rd v (logicIcc v) s.y
  ⟨ends _, ends _, ends _, ends _, ends _, ends _⟩

/-! ### Tagged arithmetic (R194) -/

theorem tagged_eq_decide (a b : Word) :
    tagged a b = decide (a.extractLsb' 0 2 ≠ 0#2 ∨ b.extractLsb' 0 2 ≠ 0#2) := by
  rw [tagged, Bool.eq_iff_iff]
  simp only [Bool.or_eq_true, bne_iff_ne, decide_eq_true_eq]

/-- An instruction of the TV form, `x` being the V it would leave: it traps where that is 1, else it ends with V 0. -/
theorem tagTrap_splits (s : State) (rd : Reg) (v : Word) (f : Icc) (x : Bool) :
    let r : Result := if x then raise .tagOverflow s else writeRegCc rd v { f with v := x } s
    (x = false → EndsWith r s rd v { s.psr with icc := { f with v := false } } s.y)
    ∧ (x = true → r = .next (raiseAt s.pc s.npc .tagOverflow s)) := by
  cases x with
  | false => exact ⟨fun _ => writeRegCc_endsWith s rd v _ s.y, nofun⟩
  | true => exact ⟨nofun, fun _ => rfl⟩

/-- Settles O25: V of the tagged forms is that of the untagged icc or a tag, and decides between the two ends. -/
theorem taggedArithmetic : Obligations.TaggedArithmetic := by
  intro s rd rs1 o2
  simp only [← tagged_eq_decide, ← addIcc_eq_sumIcc, ← subIcc_eq_differenceIcc]
  obtain ⟨addEnds, addTraps⟩ := tagTrap_splits s rd (s.reg rs1 + operand2 o2 s)
    (addIcc (s.reg rs1) (operand2 o2 s) false) (taggedAddOverflow (s.reg rs1) (operand2 o2 s))
  obtain ⟨subEnds, subTraps⟩ := tagTrap_splits s rd (s.reg rs1 - operand2 o2 s)
    (subIcc (s.reg rs1) (operand2 o2 s) false) (taggedSubOverflow (s.reg rs1) (operand2 o2 s))
  exact ⟨writeRegCc_endsWith s rd _ _ s.y, writeRegCc_endsWith s rd _ _ s.y, addEnds, addTraps, subEnds, subTraps⟩

/-! ### The multiply step (R207) -/

theorem mulStepOperand_eq (a : Word) (f : Icc) :
    mulStepOperand a f = (if f.n = f.v then 0#1 else 1#1) ++ a.extractLsb' 1 31 := by
  unfold mulStepOperand
  cases f.n <;> cases f.v <;> rfl

/-- Settles O26: the addition of the step is one with codes, in the state with Y shifted. -/
theorem multiplyStep : Obligations.MultiplyStep := by
  intro s rd rs1 o2
  simp only [← mulStepOperand_eq, ← addIcc_eq_sumIcc]
  exact writeRegCc_endsWith s rd _ _ _

/-! ### Shifts (R220 to R223) -/

theorem shiftCount_eq_shiftDistance (c : ShiftCount) (s : State) : shiftCount c s = shiftDistance c s := by
  cases c with
  | reg rs2 => simp [shiftCount, shiftDistance]
  | imm shcnt => rfl

/-- An arithmetic right shift copies the sign into the bits it frees. -/
theorem sshiftRight_getLsbD_min (a : Word) (n : Nat) {k : Nat} (hk : k < 32) :
    (a.sshiftRight n).getLsbD k = a.getLsbD (min (k + n) 31) := by
  rw [BitVec.getLsbD_sshiftRight, BitVec.msb_eq_getLsbD_last]
  by_cases h : n + k < 32
  · have hmin : min (k + n) 31 = n + k := by omega
    simp [h, hmin, hk]
  · have hmin : min (k + n) 31 = 31 := by omega
    simp [h, hmin, hk]

/-- Settles O27: each shift of the library has the bits R221 to R223 give, at the distance of R220. -/
theorem shiftResults : Obligations.ShiftResults := by
  intro s rd rs1 c
  rw [← shiftCount_eq_shiftDistance]
  refine ⟨⟨_, writeReg_endsWith rd _ s, fun k hk => ?_⟩, ⟨_, writeReg_endsWith rd _ s, fun k hk => ?_⟩,
    ⟨_, writeReg_endsWith rd _ s, fun k hk => ?_⟩⟩
  · rw [BitVec.getLsbD_shiftLeft]
    split <;> simp [*]
  · rw [BitVec.getLsbD_ushiftRight]
    split
    · rw [Nat.add_comm]
    · exact BitVec.getLsbD_of_ge _ _ (by omega)
  · exact sshiftRight_getLsbD_min _ _ hk

/-! ### SETHI and its special words (R226, R227) -/

theorem sethiValue_eq (imm22 : BitVec 22) : sethiValue imm22 = imm22.setWidth 32 <<< 10 := by
  apply BitVec.eq_of_getLsbD_eq
  intro i hi
  rw [sethiValue, BitVec.getLsbD_append, BitVec.getLsbD_shiftLeft, BitVec.getLsbD_setWidth]
  by_cases h : i < 10
  · simp [h]
  · simp [h, hi, show i - 10 < 32 by omega]

theorem advance_endsAs (s : State) : EndsAs (.next s.advance) s.ended := ⟨_, rfl, .of_visible rfl⟩

/-- Settles O28: FLOW decides between the plain end and the one that restarts the check. -/
theorem sethiAndNop : Obligations.SethiAndNop := by
  refine ⟨fun s rd imm22 => ?_, fun s h => ?_, fun s h => ?_, fun s sig h => ?_⟩
  · rw [← sethiValue_eq]
    exact writeReg_endsWith rd _ s
  · have hnop : exec .nop s = .next s.advance := congrArg _ (if_neg (by simp [h]))
    exact hnop ▸ advance_endsAs s
  · have hnop : exec .nop s = .next (s.restartCheck false) := congrArg _ (if_pos h)
    exact ⟨_, hnop, .of_visible rfl⟩
  · have hcheck : exec (.pfcheck sig) s = .next s.advance := if_neg (by simp [h])
    exact hcheck ▸ advance_endsAs s

/-! ### The conditions after a comparison (R246) -/

theorem subIcc_z (a b : Word) : (subIcc a b false).z = (a == b) := by
  have hres : subResult a b false = a - b := by simp [subResult]
  change (subResult a b false == 0#32) = (a == b)
  rw [hres, Bool.eq_iff_iff, beq_iff_eq, beq_iff_eq]
  exact sub_eq_zero

theorem subIcc_c (a b : Word) : (subIcc a b false).c = a.ult b := rfl

/-- N xor V is the signed comparison: the borrow says which word is smaller unsigned, and the signs correct it. -/
theorem subIcc_n_xor_v (a b : Word) : ((subIcc a b false).n ^^ (subIcc a b false).v) = a.slt b := by
  rw [BitVec.slt_eq_ult, ← subIcc_c]
  simp only [subIcc, iccOf, subOverflow, subBorrow_eq_bits]
  cases a.msb <;> cases b.msb <;> simp

theorem subcc_icc (s : State) (rd rs1 : Reg) (o2 : Operand2) :
    ∃ t, exec (.subcc rd rs1 o2) s = .next t ∧ t.psr.icc = subIcc (s.reg rs1) (operand2 o2 s) false := by
  obtain ⟨t, hexec, -, hagree⟩ := writeRegCc_endsWith s rd (s.reg rs1 - operand2 o2 s) _ s.y
  exact ⟨t, hexec, by rw [hagree.psr]⟩

/-- The conditions that hold where the first operand is equal, less or not greater. -/
theorem testIcc_subIcc (a b : Word) :
    testIcc 0b0001#4 (subIcc a b false) = (a == b)
    ∧ testIcc 0b0011#4 (subIcc a b false) = a.slt b
    ∧ testIcc 0b0010#4 (subIcc a b false) = a.sle b
    ∧ testIcc 0b0101#4 (subIcc a b false) = a.ult b
    ∧ testIcc 0b0100#4 (subIcc a b false) = a.ule b := by
  have signed : testIcc 0b0010#4 (subIcc a b false) = ((a == b) || a.slt b) := by
    rw [← subIcc_z, ← subIcc_n_xor_v]; rfl
  have unsigned : testIcc 0b0100#4 (subIcc a b false) = (a.ult b || a == b) := by
    rw [← subIcc_z, ← subIcc_c]; rfl
  refine ⟨subIcc_z a b, subIcc_n_xor_v a b, ?_, subIcc_c a b, ?_⟩
  · rw [signed, BitVec.sle_eq_slt_or_eq, Bool.or_comm]
  · rw [unsigned, Bool.eq_iff_iff, Bool.or_eq_true, beq_iff_eq, BitVec.ult_iff_toNat_lt, BitVec.ule_iff_toNat_le,
      ← BitVec.toNat_inj]
    exact Nat.le_iff_lt_or_eq.symm

/-- The other five comparisons are the complements of these. -/
theorem testIcc_complements (f : Icc) :
    testIcc 0b1001#4 f = !testIcc 0b0001#4 f ∧ testIcc 0b1011#4 f = !testIcc 0b0011#4 f
    ∧ testIcc 0b1010#4 f = !testIcc 0b0010#4 f ∧ testIcc 0b1101#4 f = !testIcc 0b0101#4 f
    ∧ testIcc 0b1100#4 f = !testIcc 0b0100#4 f := ⟨rfl, rfl, rfl, rfl, rfl⟩

/-- Settles O30: each condition is a comparison that icc makes, or the complement of one. -/
theorem compareDecidesBranches : Obligations.CompareDecidesBranches := by
  intro s rd rs1 o2
  obtain ⟨t, hexec, hicc⟩ := subcc_icc s rd rs1 o2
  refine ⟨t, hexec, ?_⟩
  simp only [hicc, testIcc_complements, testIcc_subIcc]
  simp only [BitVec.sle_eq_not_slt, BitVec.ule_eq_not_ult, Bool.not_not, and_self]

end Sys2Proof.Machine
end

section
/-! PROOF. Conditional branches (O44, O45, O46), each its condition and then `State.branch`, and the control transfers in the
delay slot of a conditional branch (O48). -/

namespace Sys2Proof.Machine

/-! ### The branch itself (R242, R244, R245) -/

/-- The instruction form `i` is `State.branch` on the decision `taken` wherever `ok` holds. -/
def Decides (i : Bool → BitVec 22 → Instr) (always : Bool) (ok : State → Prop) (taken : State → Bool) : Prop :=
  ∀ (s : State) (a : Bool) (d : BitVec 22), ok s → exec (i a d) s = .next (s.branch always (taken s) a d)

/-- All that a branch changes beside its target. -/
theorem branch_agree (s : State) (always taken a : Bool) (d : BitVec 22) :
    Agree (s.branch always taken a d)
      { s.ended with
        npc := (s.branch always taken a d).npc, annulNext := a && (always || !taken), condDelay := !always } :=
  .of_record rfl

theorem branch_npc_outside {s : State} (h : s.condDelay = false) (always taken a : Bool) (d : BitVec 22) :
    (s.branch always taken a d).npc = if taken then s.pc + (d ++ 0#2).signExtend 32 else s.npc + 4#32 := by
  rw [State.branch_npc, h]
  rfl

/-- Whatever is decided, a branch goes to its target or past its delay instruction. -/
theorem branch_npc_mem {s : State} (h : s.condDelay = false) (always taken a : Bool) (d : BitVec 22) :
    (s.branch always taken a d).npc ∈ [s.pc + (d ++ 0#2).signExtend 32, s.npc + 4#32] := by
  rw [branch_npc_outside h]
  cases taken <;> simp

/-- In the delay slot of a conditional branch the target is free, but word aligned (R257, D15). -/
theorem transfer_npc_inSlot {s : State} (h : s.condDelay = true) (target : Word) :
    WordAligned (s.transfer target).npc := by
  rw [State.transfer_npc, if_pos h]
  exact wordAligned_scaled _

section Decided
variable {i : Bool → BitVec 22 → Instr} {always : Bool} {ok : State → Prop} {taken : State → Bool}

theorem Decides.branches (hi : Decides i always ok taken) : Branches i always ok taken := by
  intro s a d hslot hok
  refine ⟨_, hi s a d hok, ?_⟩
  rw [← branch_npc_outside hslot always (taken s) a d]
  exact branch_agree s always (taken s) a d

theorem Decides.inSlot (hi : Decides i always ok taken) : BranchesInSlot i always ok taken := fun s a d hslot hok =>
  ⟨_, hi s a d hok, transfer_npc_inSlot hslot _, branch_agree s always (taken s) a d⟩

end Decided

/-! ### The three families (R247, R251, R254) -/

/-- Settles O44: each formula is the model's condition of that cond field. -/
theorem integerBranches : Obligations.IntegerBranches := by
  and_intros <;> exact Decides.branches fun _ _ _ _ => rfl

/-- An FBfcc finds the FPU on, with no exception pending and good parity on its control lines. -/
def State.fbfccReady (s : State) : Prop :=
  ¬ s.fpOff ∧ s.fpu.excPending = false ∧ (s.cfg.parityInEnabled && s.pins.fipar) = false

theorem fbfcc_of_ready {s : State} (h : s.fbfccReady) (cond : BitVec 4) (a : Bool) (d : BitVec 22) :
    fbfcc cond a d s = .next (s.branch (cond == 0b1000#4) (testFcc cond s.fpu.fcc) a d) := by
  obtain ⟨hon, hpend, hpar⟩ := h
  simp only [fbfcc, withFp_of_on hon, hpar, hpend, Bool.false_eq_true, if_false]

/-- An FBfcc is decided by the set of condition codes for which its condition holds. -/
theorem fbfcc_decides {i : Bool → BitVec 22 → Instr} {cond : BitVec 4} {always : Bool} {codes : List (BitVec 2)}
    (hi : ∀ a d, exec (i a d) = fbfcc cond a d) (halways : (cond == 0b1000#4) = always)
    (hcodes : ∀ c, testFcc cond c = decide (c ∈ codes)) :
    Decides i always State.fbfccReady fun s => decide (s.fpu.fcc ∈ codes) := by
  intro s a d h
  rw [hi, fbfcc_of_ready h, halways, hcodes]

theorem fbn_decides : Decides .fbn false State.fbfccReady fun _ => false :=
  fbfcc_decides (cond := 0b0000#4) (codes := []) (fun _ _ => rfl) rfl (by decide)

/-- Settles O45. -/
theorem floatingPointBranches : Obligations.FloatingPointBranches := by
  refine ⟨fbn_decides.branches, ?_⟩
  and_intros <;> exact Decides.branches (fbfcc_decides (fun _ _ => rfl) rfl (by decide))

/-- A CBccc finds the coprocessor on, with no exception pending, and is not too close to a compare. -/
def State.cbcccReady (s : State) : Prop := ¬ s.cpOff ∧ s.cp.excPending = false ∧ s.cpCompare = false

theorem cbccc_of_ready {s : State} (h : s.cbcccReady) (cond : BitVec 4) (a : Bool) (d : BitVec 22) :
    cbccc cond a d s = .next (s.branch (cond == 0b1000#4) (testCcc cond s.cp.ccc) a d) := by
  obtain ⟨hon, hpend, hcmp⟩ := h
  simp only [cbccc, withCp_of_on hon, hpend, hcmp, Bool.false_eq_true, if_false]

theorem cbccc_decides {i : Bool → BitVec 22 → Instr} {cond : BitVec 4} {always : Bool} {codes : List (BitVec 2)}
    (hi : ∀ a d, exec (i a d) = cbccc cond a d) (halways : (cond == 0b1000#4) = always)
    (hcodes : ∀ c, testCcc cond c = decide (c ∈ codes)) :
    Decides i always State.cbcccReady fun s => decide (s.cp.ccc ∈ codes) := by
  intro s a d h
  rw [hi, cbccc_of_ready h, halways, hcodes]

theorem cbn_decides : Decides .cbn false State.cbcccReady fun _ => false :=
  cbccc_decides (cond := 0b0000#4) (codes := []) (fun _ _ => rfl) rfl (by decide)

/-- Too close to a compare the decision is free, and the spacing is still too close (R255, log 22). -/
theorem exec_cbccc_afterCompare {s : State} (hon : ¬ s.cpOff) (hpend : s.cp.excPending = false)
    (hcmp : s.cpCompare = true) {a : Bool} {d : BitVec 22} {i : Instr} (hi : i ∈ cbcccForms a d) :
    ∃ always, exec i s
      = .next { s.drawn.branch always (Config.freeBool s.draws) a d with cpCompare := true } := by
  obtain ⟨cond, e⟩ := exec_cbcccForms hi
  refine ⟨cond == 0b1000#4, ?_⟩
  rw [e]
  simp only [cbccc, withCp_of_on hon, hpend, hcmp, Bool.false_eq_true, if_false, if_true]

theorem branch_afterCompare_agree (s : State) (always taken a : Bool) (d : BitVec 22) :
    let t : State := { s.drawn.branch always taken a d with cpCompare := true }
    Agree t { s.ended with npc := t.npc, annulNext := t.annulNext, condDelay := t.condDelay, cpCompare := true } :=
  .of_record rfl

/-- Settles O46. -/
theorem coprocessorBranches : Obligations.CoprocessorBranches := by
  refine ⟨cbn_decides.branches, ?_⟩
  iterate 15 refine ⟨Decides.branches (cbccc_decides (fun _ _ => rfl) rfl (by decide)), ?_⟩
  intro s a d hslot hon hpend hcmp i hi
  obtain ⟨always, e⟩ := exec_cbccc_afterCompare hon hpend hcmp hi
  exact ⟨_, e, branch_npc_mem (s := s.drawn) hslot always _ a d, branch_afterCompare_agree s always _ a d⟩

/-! ### RETT (R263, R264) -/

/-! The checks in their order: ET, S, the window above, the alignment of the target. -/

section Rett
variable {s : State} {rs1 : Reg} {o2 : Operand2}

theorem exec_rett_enabled (het : s.psr.et = true) : exec (.rett rs1 o2) s = raise .illegalInstruction s := if_pos het

theorem exec_rett_user (het : s.psr.et = false) (hs : s.psr.s = false) :
    exec (.rett rs1 o2) s = raise .privilegedInstruction s := by
  change execRett rs1 o2 s = _
  simp [execRett, het, hs]

theorem exec_rett_invalid (het : s.psr.et = false) (hs : s.psr.s = true)
    (hinvalid : s.windowInvalid (s.psr.cwp + 1#3) = true) :
    exec (.rett rs1 o2) s = raise .windowUnderflow s := by
  change execRett rs1 o2 s = _
  simp [execRett, het, hs, hinvalid]

theorem exec_rett_misaligned (het : s.psr.et = false) (hs : s.psr.s = true)
    (hvalid : s.windowInvalid (s.psr.cwp + 1#3) = false) (ha : ¬ WordAligned (effectiveAddress rs1 o2 s)) :
    exec (.rett rs1 o2) s = raise .memAddressNotAligned s := by
  have hea := misaligned_word ha
  change execRett rs1 o2 s = _
  simp [execRett, het, hs, hvalid, hea]

theorem exec_rett_returns (het : s.psr.et = false) (hs : s.psr.s = true)
    (hvalid : s.windowInvalid (s.psr.cwp + 1#3) = false) (ha : WordAligned (effectiveAddress rs1 o2 s)) :
    exec (.rett rs1 o2) s = .next (s.transfer (effectiveAddress rs1 o2 s)).returnFromTrap := by
  have hea := aligned_word_of ha
  change execRett rs1 o2 s = _
  simp [execRett, het, hs, hvalid, hea]

end Rett

/-- All that a return from trap changes beside its target (R263, R355, R394). -/
theorem returnFromTrap_agree (s : State) (target : Word) :
    Agree (s.transfer target).returnFromTrap { s.ended with
      npc := (s.transfer target).npc, psr := { s.psr with et := true, s := s.psr.ps, cwp := s.psr.cwp + 1#3 }
      pfcCheckEnabled := if s.cfg.flowEnabled then false else s.pfcCheckEnabled } := by
  rw [← checkEnabled_after]
  exact .of_record rfl

/-! ### In the delay slot of a conditional branch (R257) -/

/-- A transfer that writes its own address to r[rd], in the slot. -/
theorem link_transfer_inSlot {s : State} (h : s.condDelay = true) (rd : Reg) (target : Word) :
    let t := (s.setReg rd s.pc).transfer target
    WordAligned t.npc ∧ WritesReg t.regs s s.psr.cwp rd s.pc ∧ Agree t { s.ended with npc := t.npc, regs := t.regs } := by
  have hslot : (s.setReg rd s.pc).condDelay = true := by rw [State.setReg_condDelay, h]
  refine ⟨transfer_npc_inSlot hslot target, setReg_writesReg s rd s.pc, .of_visible ?_⟩
  rw [setReg_eq]
  rfl

/-- Settles O48: in the slot the target of each transfer is replaced, and nothing else of it. -/
theorem transferInBranchDelaySlot : Obligations.TransferInBranchDelaySlot := by
  refine ⟨fun s hslot => ⟨fun d => ⟨_, rfl, link_transfer_inSlot hslot 15#5 _⟩, fun rd rs1 o2 ha => ?_,
    fun rs1 o2 het hs hvalid ha => ?_, fun a d hon hpend hcmp i hi => ?_⟩, ?_⟩
  · exact ⟨_, if_pos (aligned_word_of ha), link_transfer_inSlot hslot rd _⟩
  · exact ⟨_, exec_rett_returns het hs hvalid ha, transfer_npc_inSlot hslot _, returnFromTrap_agree s _⟩
  · obtain ⟨always, e⟩ := exec_cbccc_afterCompare hon hpend hcmp hi
    exact ⟨_, e, transfer_npc_inSlot (s := s.drawn) hslot _, branch_afterCompare_agree s always _ a d⟩
  · iterate 16 refine ⟨Decides.inSlot fun _ _ _ _ => rfl, ?_⟩
    refine ⟨fbn_decides.inSlot, ?_⟩
    iterate 15 refine ⟨Decides.inSlot (fbfcc_decides (fun _ _ => rfl) rfl (by decide)), ?_⟩
    refine ⟨cbn_decides.inSlot, ?_⟩
    and_intros <;> exact Decides.inSlot (cbccc_decides (fun _ _ => rfl) rfl (by decide))

end Sys2Proof.Machine
end

section
/-! PROOF. Instructions that trap or end a trap: privileged instructions in user mode (O39), RETT (O49) and its couple with
JMPL (O17), and Ticc (O50). -/

namespace Sys2Proof.Machine

/-! ### Traps with traps disabled (R356) -/

theorem raise_of_disabled {s : State} (h : s.psr.et = false) (t : Trap) :
    ∃ u, raise t s = .next u ∧ u.mode = .error ∧ u.tt = t.tt := by
  refine ⟨_, rfl, ?_⟩
  rw [raiseAt_of_disabled h]
  exact ⟨rfl, by simp⟩

theorem raiseAt_tt (a b : Word) (t : Trap) (s : State) : (raiseAt a b t s).tt = t.tt := by
  rcases raiseAt_cases a b t s with ⟨_, e⟩ | ⟨_, e⟩ <;> simp [e]

/-- r[17] of the trap window reads the saved PC. -/
theorem trapEntryAt_reg17 (a b : Word) (t : Trap) (s : State) : (trapEntryAt a b t s).reg 17#5 = a := by
  have hplace := trapEntryAt_place a b t s (regIndex (s.psr.cwp - 1#3) 17#5)
  rwa [if_pos rfl] at hplace

/-- r[18] of the trap window reads the saved nPC. -/
theorem trapEntryAt_reg18 (a b : Word) (t : Trap) (s : State) : (trapEntryAt a b t s).reg 18#5 = b := by
  have hplace := trapEntryAt_place a b t s (regIndex (s.psr.cwp - 1#3) 18#5)
  have hne : regIndex (s.psr.cwp - 1#3) 18#5 ≠ regIndex (s.psr.cwp - 1#3) 17#5 := fun e =>
    absurd ((regIndex_inj _ _ _).1 e) (by decide)
  rwa [if_neg hne, if_pos rfl] at hplace

/-- Whether traps are enabled or not, r[17] of the trap window is the saved PC (R351, R356). -/
theorem raiseAt_reg17 (a b : Word) (t : Trap) (s : State) : (raiseAt a b t s).reg 17#5 = a := by
  rcases raiseAt_cases a b t s with ⟨_, e⟩ | ⟨_, e⟩ <;> rw [e] <;> exact trapEntryAt_reg17 a b t s

/-! ### User mode (R371) -/

theorem privileged_of_user {s : State} (h : s.psr.s = false) (k : State → Result) :
    privileged k s = raise .privilegedInstruction s := if_neg (by simp [h])

theorem traps_of_privileged {s : State} (h : s.psr.s = false) {i : Instr} (hi : ∃ k, exec i s = privileged k s) :
    Traps .privilegedInstruction i s := by
  obtain ⟨k, e⟩ := hi
  rw [Traps, e, privileged_of_user h, raise]

/-- The privileged instructions whose first check is that of the mode. -/
theorem exec_privilegedForms {rd rs1 rs2 : Reg} {asi : Asi} {o2 : Operand2} {i : Instr}
    (h : i ∈ [Instr.rdpsr rd, .rdwim rd, .rdtbr rd, .wrwim rs1 o2, .wrtbr rs1 o2, .stdfq rs1 o2, .stdcq rs1 o2]
      ++ alternateForms rd rs1 rs2 asi) (s : State) : ∃ k, exec i s = privileged k s := by
  revert i
  simp only [alternateForms, List.cons_append, List.nil_append, List.forall_mem_cons, List.not_mem_nil, false_implies,
    implies_true, and_true]
  have hwrwim : execWrwim rs1 o2 s = privileged _ s := rfl
  have hwrtbr : execWrtbr rs1 o2 s = privileged _ s := rfl
  refine ⟨⟨_, rfl⟩, ⟨_, rfl⟩, ⟨_, rfl⟩, ⟨_, hwrwim⟩, ⟨_, hwrtbr⟩, ?_⟩
  and_intros <;> exact ⟨_, rfl⟩

/-- Bits 4:3 of a CWP field below 8 are 0. -/
theorem cwp_high_zero {v : Word} (h : v.toNat % 32 < 8) : v.extractLsb' 3 2 = 0#2 := by
  apply BitVec.eq_of_toNat_eq
  rw [BitVec.extractLsb'_toNat, Nat.shiftRight_eq_div_pow, BitVec.toNat_ofNat]
  omega

/-- WRPSR of a value that names a window checks nothing before the mode (R287). -/
theorem exec_wrpsr_privileged {s : State} {rs1 : Reg} {o2 : Operand2} (h : (writeValue rs1 o2 s).toNat % 32 < 8) :
    ∃ k, exec (.wrpsr rs1 o2) s = privileged k s :=
  ⟨_, if_neg (by simp [cwp_high_zero h])⟩

/-- Settles O39: each check of the mode is the first of its instruction, or those before it are passed. -/
theorem privilegedInstructionsTrapInUserMode : Obligations.PrivilegedInstructionsTrapInUserMode := by
  intro s rd rs1 rs2 asi o2 hs
  refine ⟨fun i hi => traps_of_privileged hs (exec_privilegedForms hi s),
    fun hcwp => traps_of_privileged hs (exec_wrpsr_privileged hcwp), fun het => ?_, ?_⟩
  · exact ⟨_, exec_rett_user het hs, by rw [raiseAt_of_disabled het, State.enterError_mode], rfl⟩
  · rintro u rfl
    exact ⟨raiseAt_tt _ _ _ s, raiseAt_reg17 _ _ _ s⟩

/-! ### RETT (R263, R264) -/

/-- Settles O49: each check of RETT in its order, and the return behind the last. -/
theorem returnFromTrap : Obligations.ReturnFromTrap := by
  intro s rs1 o2 ea invalid
  refine ⟨fun het hs hvalid ha hslot => ?_, fun het => ?_, fun het hs => ?_, fun het hs hinvalid => ?_,
    fun het hs hvalid ha => ?_⟩
  · have hnpc : (s.transfer ea).npc = ea := by simp [hslot]
    have hagree := returnFromTrap_agree s ea
    rw [hnpc] at hagree
    exact ⟨_, exec_rett_returns het hs hvalid ha, hagree⟩
  · exact exec_rett_enabled het
  · rw [exec_rett_user het hs]
    exact raise_of_disabled het _
  · rw [exec_rett_invalid het hs hinvalid]
    exact raise_of_disabled het _
  · rw [exec_rett_misaligned het hs hvalid ha]
    exact raise_of_disabled het _

/-! ### The end of a trap handler (R265, R355) -/

theorem effectiveAddress_imm_zero (rs1 : Reg) (s : State) : effectiveAddress rs1 (.imm 0#13) s = s.reg rs1 :=
  BitVec.add_zero _

/-- JMPL without a link, to the address in a register. -/
theorem exec_jmpl_reg {s : State} {rs1 : Reg} (ha : WordAligned (s.reg rs1)) :
    exec (.jmpl 0#5 rs1 (.imm 0#13)) s = .next (s.transfer (s.reg rs1)) := by
  have hea := effectiveAddress_imm_zero rs1 s
  have hjump : exec (.jmpl 0#5 rs1 (.imm 0#13)) s
      = .next ((s.setReg 0#5 s.pc).transfer (effectiveAddress rs1 (.imm 0#13) s)) :=
    if_pos (aligned_word_of (hea ▸ ha))
  rw [hjump, setReg_zero, hea]

/-- RETT to the address in a register, as `exec_rett_returns`. -/
theorem exec_rett_reg {s : State} {rs1 : Reg} (het : s.psr.et = false) (hs : s.psr.s = true)
    (hvalid : s.windowInvalid (s.psr.cwp + 1#3) = false) (ha : WordAligned (s.reg rs1)) :
    exec (.rett rs1 (.imm 0#13)) s = .next (s.transfer (s.reg rs1)).returnFromTrap := by
  have hea := effectiveAddress_imm_zero rs1 s
  rw [exec_rett_returns het hs hvalid (hea ▸ ha), hea]

theorem trapEntryAt_regs_other (a b : Word) (t : Trap) (s : State) (j : Fin 136)
    (h17 : j ≠ regIndex (s.psr.cwp - 1#3) 17#5) (h18 : j ≠ regIndex (s.psr.cwp - 1#3) 18#5) :
    (trapEntryAt a b t s).regs[j.val] = s.regs[j.val] := by
  rw [trapEntryAt_place, if_neg h17, if_neg h18]

/-- The couple at the end of a handler jumps to r[17] and then to r[18] of the trap window. -/
theorem exec_jmpl_rett {u : State} (het : u.psr.et = false) (hs : u.psr.s = true)
    (hvalid : u.windowInvalid (u.psr.cwp + 1#3) = false) (h17 : WordAligned (u.reg 17#5))
    (h18 : WordAligned (u.reg 18#5)) :
    exec (.jmpl 0#5 17#5 (.imm 0#13)) u = .next (u.transfer (u.reg 17#5))
    ∧ exec (.rett 18#5 (.imm 0#13)) (u.transfer (u.reg 17#5))
      = .next ((u.transfer (u.reg 17#5)).transfer (u.reg 18#5)).returnFromTrap :=
  ⟨exec_jmpl_reg h17, exec_rett_reg (s := u.transfer (u.reg 17#5)) het hs hvalid h18⟩

/-- Settles O17: the couple jumps to the saved pair, RETT undoes what trap entry does to the PSR, and only trap entry writes
registers. -/
theorem trapAndReturn : Obligations.TrapAndReturn := by
  intro t s het hpc hnpc hvalid
  have hback : s.psr.cwp - 1#3 + 1#3 = s.psr.cwp := BitVec.sub_add_cancel _ _
  have h17 := trapEntryAt_reg17 s.pc s.npc t s
  have h18 := trapEntryAt_reg18 s.pc s.npc t s
  have hwim : (trapEntryAt s.pc s.npc t s).windowInvalid ((trapEntryAt s.pc s.npc t s).psr.cwp + 1#3) = false := by
    simpa [State.windowInvalid, hback] using hvalid
  obtain ⟨hjmpl, hrett⟩ := exec_jmpl_rett rfl rfl hwim (by rwa [h17]) (by rwa [h18])
  rw [h17] at hjmpl hrett
  rw [h18] at hrett
  refine ⟨_, _, _, by rw [raise, raiseAt_of_enabled het], hjmpl, hrett, ?_⟩
  simpa [-trapEntryAt_regs, hback, het] using trapEntryAt_regs_other s.pc s.npc t s

/-! ### Ticc (R266, R349) -/

/-- The trap number is the sum modulo 128. -/
theorem extractLsb'_low7 (v : Word) : v.extractLsb' 0 7 = BitVec.ofNat 7 (v.toNat % 128) := by
  apply BitVec.eq_of_toNat_eq
  simp

theorem ticc_trapsOn {i : Reg → Operand2 → Instr} {cond : BitVec 4} {holds : Icc → Bool}
    (hi : ∀ rs1 o2, exec (i rs1 o2) = ticc cond rs1 o2) (hcond : ∀ f, testIcc cond f = holds f) : TrapsOn i holds := by
  intro s rs1 o2
  rw [← hcond, hi]
  refine ⟨fun h => ?_, fun h => ?_⟩
  · rw [← extractLsb'_low7]
    exact if_pos h
  · have hend : ticc cond rs1 o2 s = .next s.advance := if_neg (by simp [h])
    exact hend ▸ advance_endsAs s

/-- Settles O50: each formula is the model's condition of that cond field, of which 0000 and 1000 do not depend on icc. -/
theorem conditionalTraps : Obligations.ConditionalTraps := by
  refine ⟨ticc_trapsOn (cond := 0b0000#4) (fun _ _ => rfl) fun _ => rfl, ?_⟩
  iterate 7 refine ⟨ticc_trapsOn (fun _ _ => rfl) fun _ => rfl, ?_⟩
  refine ⟨ticc_trapsOn (cond := 0b1000#4) (fun _ _ => rfl) fun _ => rfl, ?_⟩
  and_intros <;> exact ticc_trapsOn (fun _ _ => rfl) fun _ => rfl

end Sys2Proof.Machine
end

section
/-! PROOF. Writing the control registers (O52). -/

namespace Sys2Proof.Machine

/-! ### The window field of a WRPSR value (C5, R287) -/

/-- Bits 4:3 of a CWP field of 8 or more are not both 0. -/
theorem cwp_high_ne_zero {v : Word} (h : v.toNat % 32 ≥ 8) : v.extractLsb' 3 2 ≠ 0#2 := by
  intro hzero
  have hfield := congrArg BitVec.toNat hzero
  rw [BitVec.extractLsb'_toNat, Nat.shiftRight_eq_div_pow, BitVec.toNat_ofNat] at hfield
  omega

section ControlWrites
variable {s : State} {rs1 : Reg} {o2 : Operand2}

/-- A value that names no window traps before the mode is checked, and nothing is written (R287). -/
theorem wrpsr_traps_of_no_window (h : (writeValue rs1 o2 s).toNat % 32 ≥ 8) :
    Traps .illegalInstruction (.wrpsr rs1 o2) s :=
  if_pos (bne_iff_ne.mpr (cwp_high_ne_zero h))

/-! ### The writes in supervisor mode (R286, R289, R290) -/

theorem exec_wrpsr_supervisor (hs : s.psr.s = true) (h : (writeValue rs1 o2 s).toNat % 32 < 8) :
    exec (.wrpsr rs1 o2) s = .next { s with psr := PSR.ofWord (writeValue rs1 o2 s) }.advance := by
  have hlegal : ¬ ((writeValue rs1 o2 s).extractLsb' 3 2 != 0#2) = true := by simp [cwp_high_zero h]
  exact (if_neg hlegal).trans (privileged_of_supervisor hs _)

theorem exec_wrwim_supervisor (hs : s.psr.s = true) :
    exec (.wrwim rs1 o2) s = .next { s with wim := (writeValue rs1 o2 s).extractLsb' 0 8 }.advance :=
  show execWrwim rs1 o2 s = _ from privileged_of_supervisor hs _

theorem exec_wrtbr_supervisor (hs : s.psr.s = true) :
    exec (.wrtbr rs1 o2) s = .next { s with tba := (writeValue rs1 o2 s).extractLsb' 12 20 }.advance :=
  show execWrtbr rs1 o2 s = _ from privileged_of_supervisor hs _

end ControlWrites

/-- Settles O52: each write changes its register and then ends the instruction, which leaves that register alone. -/
theorem writeControlRegisters : Obligations.WriteControlRegisters := by
  intro s rs1 o2 v
  refine ⟨?wry, wrpsr_traps_of_no_window, fun hs => ⟨?wrwim, ?wrtbr, fun hcwp => ?wrpsr⟩⟩
  case wry => exact advance_endsAs { s with y := v }
  case wrwim =>
    rw [exec_wrwim_supervisor hs]
    exact advance_endsAs { s with wim := v.extractLsb' 0 8 }
  case wrtbr =>
    rw [exec_wrtbr_supervisor hs]
    exact advance_endsAs { s with tba := v.extractLsb' 12 20 }
  case wrpsr =>
    rw [exec_wrpsr_supervisor hs hcwp]
    exact advance_endsAs { s with psr := PSR.ofWord v }

end Sys2Proof.Machine
end

section
/-! PROOF. UNIMP and IFLUSH (O54): the words they are read from, and the step of IFLUSH in each sense of IFT. -/

namespace Sys2Proof

/-! ### Their words (R98, R99) -/

theorem decode_unimp_word {w : Word} (hop : opField w = 0b00#2) (hop2 : op2Field w = 0b000#3) :
    decode w = .ok (.unimp (low22Field w)) := by
  simp [decode, decodeFormat2, hop, hop2]

theorem decode_iflush_word {w : Word} (hop : opField w = 0b10#2) (hop3 : op3Field w = 0b111011#6) :
    decode w = .ok (.iflush (rs1Field w) (operand2Field w)) := by
  simp [decode, decodeOperate, hop, hop3]

end Sys2Proof

namespace Sys2Proof.Machine

/-! ### IFLUSH (R322) -/

theorem exec_iflush_ift_high {s : State} (h : s.cfg.ift = true) (rs1 : Reg) (o2 : Operand2) :
    exec (.iflush rs1 o2) s = .next s.advance := if_pos h

theorem iflush_traps_ift_low {s : State} (h : s.cfg.ift = false) (rs1 : Reg) (o2 : Operand2) :
    Traps .illegalInstruction (.iflush rs1 o2) s := if_neg (by simp [h])

/-- Settles O54: UNIMP has no branch but its trap, its neighbours in op2 are reserved words, and IFT decides between the
two branches of IFLUSH. -/
theorem unimpAndIflush : Obligations.UnimpAndIflush := by
  refine ⟨fun _ _ => rfl, fun w hop => ⟨decode_unimp_word hop, fun hop2 s => ?reserved⟩,
    fun w hop hop3 => ⟨_, _, decode_iflush_word hop hop3⟩, fun s rs1 o2 hift => ?nop,
    fun _ rs1 o2 hift => iflush_traps_ift_low hift rs1 o2⟩
  case reserved => exact runWord_reserved (.inl ⟨hop, hop2⟩) s
  case nop =>
    rw [exec_iflush_ift_high hift]
    exact advance_endsAs s

end Sys2Proof.Machine
end

section
/-! PROOF. User mode is confined (O9): no instruction run in user mode changes what is reserved to supervisor mode, but
that it may end in a trap, and no other part of a step does so but leaving reset mode. -/

namespace Sys2Proof.Machine

/-- What only supervisor mode can change (R370, R373): WIM, TBA, and the PSR but for icc and CWP. -/
def State.guarded (s : State) : BitVec 8 × BitVec 20 × PSR :=
  (s.wim, s.tba, { s.psr with icc := initialPsr.icc, cwp := initialPsr.cwp })

theorem guarded_eq_iff (t s : State) : t.guarded = s.guarded ↔ t.wim = s.wim ∧ t.tba = s.tba ∧ t.psr.ec = s.psr.ec
    ∧ t.psr.ef = s.psr.ef ∧ t.psr.pil = s.psr.pil ∧ t.psr.s = s.psr.s ∧ t.psr.ps = s.psr.ps ∧ t.psr.et = s.psr.et := by
  simp [State.guarded]

/-- `t` has the guarded registers of `s`, or is what a trap makes of a state that has them. -/
def Confined (s t : State) : Prop := ∃ u, u.guarded = s.guarded ∧ (t = u ∨ ∃ a b c, t = raiseAt a b c u)

/-- In user mode the meaning `k` leads to confined states only. -/
def Confines (k : State → Result) : Prop := ∀ s t, s.psr.s = false → k s = .next t → Confined s t

theorem Confined.of_guarded {s t : State} (h : t.guarded = s.guarded) : Confined s t := ⟨t, h, .inl rfl⟩

theorem raiseAt_confined (a b : Word) (c : Trap) (s : State) : Confined s (raiseAt a b c s) :=
  ⟨s, rfl, .inr ⟨a, b, c, rfl⟩⟩

theorem Confined.of_before {s u t : State} (h : Confined u t) (hu : u.guarded = s.guarded) : Confined s t := by
  obtain ⟨v, hv, ht⟩ := h
  exact ⟨v, hv.trans hu, ht⟩

theorem user_of_guarded {s u : State} (hu : u.guarded = s.guarded) (hs : s.psr.s = false) : u.psr.s = false := by
  obtain ⟨_, _, _, _, _, h, _⟩ := (guarded_eq_iff u s).1 hu
  exact h.trans hs

/-- A meaning that confines user mode does so after anything that leaves the guarded registers alone. -/
theorem Confines.after {k : State → Result} (hk : Confines k) {s u t : State} (h : k u = .next t)
    (hs : s.psr.s = false) (hu : u.guarded = s.guarded) : Confined s t := (hk u t (user_of_guarded hu hs) h).of_before hu

/-! ### Traps, guards and decisions -/

theorem raise_confines (c : Trap) : Confines (raise c) := fun s _ _ h => raise_next.1 h ▸ raiseAt_confined _ _ c s

theorem next_confines {f : State → State} (hf : ∀ s, (f s).guarded = s.guarded) : Confines fun s => .next (f s) := by
  intro s t _ h
  cases h
  exact .of_guarded (hf s)

theorem ite_confines {c : State → Prop} [DecidablePred c] {k l : State → Result} (hk : Confines k) (hl : Confines l) :
    Confines fun s => if c s then k s else l s := by
  intro s t hs h
  dsimp only at h
  split at h
  · exact hk s t hs h
  · exact hl s t hs h

/-- A privileged instruction does nothing but trap in user mode, whatever it is (R371). -/
theorem privileged_confines (k : State → Result) : Confines (privileged k) := by
  intro s t hs h
  rw [privileged_of_user hs] at h
  exact raise_confines _ s t hs h

section Guards

variable {k : State → Result}

theorem whenAligned_confines (z : AccessSize) (a : Word) (hk : Confines k) : Confines (whenAligned z a k) :=
  ite_confines hk (raise_confines _)

theorem withFp_confines (hk : Confines k) : Confines (withFp k) := ite_confines hk (raise_confines _)

theorem withCp_confines (hk : Confines k) : Confines (withCp k) := ite_confines hk (raise_confines _)

theorem launchFp_confines (hk : Confines k) : Confines (launchFp k) :=
  ite_confines (raise_confines _) fun _ _ hs h => hk.after h hs rfl

theorem launchCp_confines (hk : Confines k) : Confines (launchCp k) :=
  ite_confines (raise_confines _) fun _ _ hs h => hk.after h hs rfl

theorem fpMemory_confines (z : AccessSize) (a : Word) (hk : Confines k) : Confines (fpMemory z a k) :=
  withFp_confines (whenAligned_confines z a (launchFp_confines hk))

theorem cpMemory_confines (z : AccessSize) (a : Word) (hk : Confines k) : Confines (cpMemory z a k) :=
  withCp_confines (whenAligned_confines z a (launchCp_confines hk))

end Guards

/-! ### Data accesses -/

theorem Accessed.guarded {s t : State} (h : Accessed s t) : t.guarded = s.guarded := by
  obtain ⟨e, n, b, _, rfl⟩ := h
  rfl

theorem Stored.guarded {asi : Asi} {a v : Word} {z : AccessSize} {s t : State} (h : Stored asi a z v s t) :
    t.guarded = s.guarded := by
  obtain ⟨u, hu, rfl | rfl⟩ := h
  · exact hu.guarded
  · exact hu.guarded

section Accesses

variable {z : AccessSize} {asi : Asi} {a v : Word}

theorem loadOne_confines {finish : Word → State → State} (hf : ∀ v s, (finish v s).guarded = s.guarded) :
    Confines (loadOne z asi a finish) := by
  intro s t hs h
  rcases loadOne_next h with ⟨v, u, hu, rfl⟩ | ⟨u, hu, hr⟩ | rfl
  · exact .of_guarded ((hf v u).trans hu.guarded)
  · exact (raise_confines _).after hr hs hu.guarded
  · exact .of_guarded rfl

theorem loadTwo_confines {onExc : State → Result} {finish : Word → Word → State → State} (he : Confines onExc)
    (hf : ∀ hi lo s, (finish hi lo s).guarded = s.guarded) : Confines (loadTwo asi a onExc finish) := by
  intro s t hs h
  rcases loadTwo_next h with ⟨hi, lo, u, u', hu, hu', rfl⟩ | ⟨u, hu, hr⟩ | ⟨u, u', hu, hu', hr⟩ | rfl | ⟨u, hu, rfl⟩
  · exact .of_guarded ((hf hi lo u').trans (hu'.guarded.trans hu.guarded))
  · exact he.after hr hs hu.guarded
  · exact he.after hr hs (hu'.guarded.trans hu.guarded)
  · exact .of_guarded rfl
  · exact .of_guarded hu.guarded

theorem storeOne_confines {finish : State → State} (hf : ∀ s, (finish s).guarded = s.guarded) :
    Confines (storeOne z asi a v finish) := by
  intro s t hs h
  rcases storeOne_next h with ⟨u, hu, rfl⟩ | ⟨u, hu, hr⟩ | rfl
  · exact .of_guarded ((hf u).trans hu.guarded)
  · exact (raise_confines _).after hr hs hu.guarded
  · exact .of_guarded rfl

theorem secondWordRefused_confines (before : List Host.Cell) : Confines (secondWordRefused before) :=
  fun _ _ hs h => (raise_confines _).after h hs rfl

theorem storeTwo_confines {hi lo : Word} {finish : State → State} (hf : ∀ s, (finish s).guarded = s.guarded) :
    Confines (storeTwo asi a hi lo finish) := by
  intro s t hs h
  rcases storeTwo_next h with ⟨u, u', hu, hu', rfl⟩ | ⟨u, hu, hr⟩ | ⟨u, u', hu, hu', hr⟩ | rfl | ⟨u, hu, rfl⟩
  · exact .of_guarded ((hf u').trans (hu'.guarded.trans hu.guarded))
  · exact (raise_confines _).after hr hs hu.guarded
  · exact (secondWordRefused_confines _).after hr hs (hu'.guarded.trans hu.guarded)
  · exact .of_guarded rfl
  · exact .of_guarded hu.guarded

theorem loadStore_confines {finish : Word → State → State} (hf : ∀ v s, (finish v s).guarded = s.guarded) :
    Confines (loadStore z asi a v finish) := by
  intro s t hs h
  rcases loadStore_next h with ⟨old, u, u', hu, hu', rfl⟩ | ⟨u, hu, hr⟩ | ⟨u, u', hu, hu', hr⟩ | rfl | ⟨u, hu, rfl⟩
  · exact .of_guarded ((hf old u').trans (hu'.guarded.trans hu.guarded))
  · exact (raise_confines _).after hr hs hu.guarded
  · exact (raise_confines _).after hr hs (hu'.guarded.trans hu.guarded)
  · exact .of_guarded rfl
  · exact .of_guarded hu.guarded

end Accesses

/-! ### The ends of an instruction -/

@[simp] theorem setReg_guarded (s : State) (i : Reg) (v : Word) : (s.setReg i v).guarded = s.guarded := by
  simp [State.guarded]

@[simp] theorem drawn_guarded (s : State) : s.drawn.guarded = s.guarded := rfl
@[simp] theorem advance_guarded (s : State) : s.advance.guarded = s.guarded := rfl
@[simp] theorem advanceCp_guarded (s : State) : s.advanceCp.guarded = s.guarded := rfl
@[simp] theorem transfer_guarded (s : State) (a : Word) : (s.transfer a).guarded = s.guarded := rfl
@[simp] theorem setIcc_guarded (s : State) (f : Icc) : (s.setIcc f).guarded = s.guarded := rfl
@[simp] theorem setFreg_guarded (s : State) (r : Reg) (v : Word) : (s.setFreg r v).guarded = s.guarded := rfl
@[simp] theorem setCreg_guarded (s : State) (r : Reg) (v : Word) : (s.setCreg r v).guarded = s.guarded := rfl
@[simp] theorem branch_guarded (s : State) (always taken a : Bool) (d : BitVec 22) :
    (s.branch always taken a d).guarded = s.guarded := rfl

theorem putReg_guarded (rd : Reg) (v : Word) (s : State) : (putReg rd v s).guarded = s.guarded := by simp [putReg]

theorem putPair_guarded (rd : Reg) (hi lo : Word) (s : State) : (putPair rd hi lo s).guarded = s.guarded := by
  simp [putPair]

theorem putFreg_guarded (rd : Reg) (v : Word) (s : State) : (putFreg rd v s).guarded = s.guarded := by simp [putFreg]

theorem putFregPair_guarded (rd : Reg) (hi lo : Word) (s : State) : (putFregPair rd hi lo s).guarded = s.guarded := by
  simp [putFregPair]

theorem putFsr_guarded (v : Word) (s : State) : (putFsr v s).guarded = s.guarded := rfl

theorem putCreg_guarded (rd : Reg) (v : Word) (s : State) : (putCreg rd v s).guarded = s.guarded := by simp [putCreg]

theorem putCregPair_guarded (rd : Reg) (hi lo : Word) (s : State) : (putCregPair rd hi lo s).guarded = s.guarded := by
  simp [putCregPair]

theorem putCsr_guarded (v : Word) (s : State) : (putCsr v s).guarded = s.guarded := rfl

theorem setFregs_guarded (value : Nat → Word) (k : Nat) (rs : List Reg) (s : State) :
    (setFregs value k rs s).guarded = s.guarded := by
  obtain ⟨f, e⟩ := setFregs_onlyF value k rs s
  rw [e]
  rfl

theorem fpEnds_guarded {data : List Word} {ready : State → State} (h : ∀ s, (ready s).guarded = s.guarded) (s : State) :
    (fpEnds data ready s).guarded = s.guarded := by
  unfold fpEnds
  split
  · rfl
  · exact h s

theorem cpEnds_guarded {data : List Word} {ready : State → State} (h : ∀ s, (ready s).guarded = s.guarded) (s : State) :
    (cpEnds data ready s).guarded = s.guarded := by
  unfold cpEnds
  split
  · rfl
  · exact h s

/-! ### The shared shapes of instructions -/

theorem writeReg_confines (rd : Reg) (v : Word) : Confines (writeReg rd v) := next_confines (putReg_guarded rd v)

theorem writeRegCc_confines (rd : Reg) (v : Word) (f : Icc) : Confines (writeRegCc rd v f) :=
  next_confines fun s => by simp

theorem loadReg_confines (z : AccessSize) (asi : Asi) (a : Word) (rd : Reg) (f : Word → Word) :
    Confines (loadReg z asi a fun v => putReg rd (f v)) :=
  whenAligned_confines z a (loadOne_confines fun _ => putReg_guarded rd _)

theorem loadPair_confines (asi : Asi) (a : Word) (rd : Reg) : Confines (loadPair asi a rd) :=
  whenAligned_confines _ a (loadTwo_confines (raise_confines _) (putPair_guarded rd))

theorem storeReg_confines (z : AccessSize) (asi : Asi) (a : Word) (rd : Reg) : Confines (storeReg z asi a rd) :=
  fun s => whenAligned_confines z a (storeOne_confines advance_guarded) s

theorem storePair_confines (asi : Asi) (a : Word) (rd : Reg) : Confines (storePair asi a rd) :=
  fun s => whenAligned_confines _ a (storeTwo_confines advance_guarded) s

theorem loadStoreByte_confines (asi : Asi) (a : Word) (rd : Reg) : Confines (loadStoreByte asi a rd) :=
  loadStore_confines (putReg_guarded rd)

theorem swapWord_confines (asi : Asi) (a : Word) (rd : Reg) : Confines (swapWord asi a rd) :=
  fun s => whenAligned_confines _ a (loadStore_confines (putReg_guarded rd)) s

theorem bicc_confines (cond : BitVec 4) (a : Bool) (d : BitVec 22) : Confines (bicc cond a d) :=
  next_confines fun s => by simp

theorem fbfcc_confines (cond : BitVec 4) (a : Bool) (d : BitVec 22) : Confines (fbfcc cond a d) :=
  withFp_confines (ite_confines (raise_confines _)
    (ite_confines (raise_confines _) (next_confines fun s => by simp)))

theorem cbccc_confines (cond : BitVec 4) (a : Bool) (d : BitVec 22) : Confines (cbccc cond a d) :=
  withCp_confines (ite_confines (raise_confines _)
    (ite_confines (next_confines fun _ => rfl) (next_confines fun s => by simp)))

theorem ticc_confines (cond : BitVec 4) (rs1 : Reg) (o2 : Operand2) : Confines (ticc cond rs1 o2) :=
  ite_confines (fun s => raise_confines _ s) (next_confines advance_guarded)

theorem fpop_confines (opf : BitVec 9) (a b : List Word) {effect : State → State}
    (he : ∀ s, (effect s).guarded = s.guarded) : Confines (fpop opf a b effect) :=
  withFp_confines (launchFp_confines (next_confines (fpEnds_guarded fun s => by
    dsimp only
    split
    · rfl
    · exact he s)))

theorem fpCompute_confines (opf : BitVec 9) (p : Precision) (rd : Reg) (a b : List Word) :
    Confines (fpCompute opf p rd a b) := fun s => fpop_confines opf a b (setFregs_guarded _ 0 _) s

theorem fpCopy_confines (opf : BitVec 9) (rd : Reg) (b : List Word) (v : Word) : Confines (fpCopy opf rd b v) :=
  fpop_confines opf [] b fun _ => rfl

theorem fpCompare_confines (opf : BitVec 9) (p : Precision) (rs1 rs2 : Reg) : Confines (fpCompare opf p rs1 rs2) := by
  intro s
  unfold fpCompare
  exact fpop_confines opf _ _ (fun _ => by rfl) s

theorem fpUnimplemented_confines : Confines fpUnimplemented :=
  withFp_confines (launchFp_confines (next_confines (fpEnds_guarded fun _ => rfl)))

theorem cpop_confines (second : Bool) (rd rs1 : Reg) (opc : BitVec 9) (rs2 : Reg) :
    Confines (cpop second rd rs1 opc rs2) := by
  refine withCp_confines (launchCp_confines (next_confines fun s => ?_))
  refine cpEnds_guarded (data := []) (fun s => ?_) s
  split <;> rfl

theorem fpPairRefused_confines (rd : Reg) : Confines (fpPairRefused rd) :=
  fun _ _ hs h => (raise_confines _).after h hs (by simp)

theorem cpPairRefused_confines (rd : Reg) : Confines (cpPairRefused rd) :=
  fun _ _ hs h => (raise_confines _).after h hs (by simp)

/-! ### Instructions with a shape of their own -/

theorem execMulscc_confines (rd rs1 : Reg) (o2 : Operand2) : Confines (execMulscc rd rs1 o2) :=
  fun _ _ hs h => (writeRegCc_confines _ _ _).after h hs rfl

theorem execPfcheck_confines (sig : BitVec 16) : Confines (execPfcheck sig) :=
  ite_confines (ite_confines (raise_confines _) (next_confines fun _ => rfl)) (next_confines advance_guarded)

theorem execNop_confines : Confines execNop := next_confines fun s => by split <;> rfl

theorem execJmpl_confines (rd rs1 : Reg) (o2 : Operand2) : Confines (execJmpl rd rs1 o2) :=
  fun s => whenAligned_confines _ _
    (next_confines (f := fun u => (u.setReg rd u.pc).transfer (effectiveAddress rs1 o2 s)) fun u => by simp) s

/-- In user mode RETT traps, whether traps are enabled or not (R263, R264). -/
theorem exec_rett_confines (rs1 : Reg) (o2 : Operand2) : Confines (exec (.rett rs1 o2)) := by
  intro s t hs h
  cases het : s.psr.et with
  | true => rw [exec_rett_enabled het] at h; exact raise_confines _ s t hs h
  | false => rw [exec_rett_user het hs] at h; exact raise_confines _ s t hs h

theorem execSave_confines (rd rs1 : Reg) (o2 : Operand2) : Confines (execSave rd rs1 o2) :=
  ite_confines (raise_confines _) fun _ _ hs h => (writeReg_confines _ _).after h hs rfl

theorem execRestore_confines (rd rs1 : Reg) (o2 : Operand2) : Confines (execRestore rd rs1 o2) :=
  ite_confines (raise_confines _) fun _ _ hs h => (writeReg_confines _ _).after h hs rfl

/-! ### Every instruction -/

/-- No instruction run in user mode changes a guarded register, but that it may trap. -/
theorem exec_confines (i : Instr) : Confines (exec i) := by
  cases i with
  | call d => exact next_confines fun s => by simp
  | unimp c => exact raise_confines _
  | nop => exact execNop_confines
  | pfcheck sig => exact execPfcheck_confines sig
  | iflush rs1 o2 => exact ite_confines (next_confines advance_guarded) (raise_confines _)
  | bn a d | be a d | ble a d | bl a d | bleu a d | bcs a d | bneg a d | bvs a d | ba a d | bne a d | bg a d | bge a d
  | bgu a d | bcc a d | bpos a d | bvc a d => exact bicc_confines _ a d
  | fbn a d | fbne a d | fblg a d | fbul a d | fbl a d | fbug a d | fbg a d | fbu a d | fba a d | fbe a d | fbue a d
  | fbge a d | fbuge a d | fble a d | fbule a d | fbo a d => exact fbfcc_confines _ a d
  | cbn a d | cb123 a d | cb12 a d | cb13 a d | cb1 a d | cb23 a d | cb2 a d | cb3 a d | cba a d | cb0 a d | cb03 a d
  | cb02 a d | cb023 a d | cb01 a d | cb013 a d | cb012 a d => exact cbccc_confines _ a d
  | tn rs1 o2 => exact ticc_confines 0b0000#4 rs1 o2
  | ta rs1 o2 => exact ticc_confines 0b1000#4 rs1 o2
  | te rs1 o2 | tle rs1 o2 | tl rs1 o2 | tleu rs1 o2 | tcs rs1 o2 | tneg rs1 o2 | tvs rs1 o2 | tne rs1 o2 | tg rs1 o2
  | tge rs1 o2 | tgu rs1 o2 | tcc rs1 o2 | tpos rs1 o2 | tvc rs1 o2 => exact ticc_confines _ rs1 o2
  | add rd rs1 o2 | addx rd rs1 o2 | sub rd rs1 o2 | subx rd rs1 o2 | and rd rs1 o2 | or rd rs1 o2 | xor rd rs1 o2
  | andn rd rs1 o2 | orn rd rs1 o2 | xnor rd rs1 o2 | sll rd rs1 o2 | srl rd rs1 o2 | sra rd rs1 o2 | sethi rd o2
  | rdy rd => exact fun s => writeReg_confines rd _ s
  | addcc rd rs1 o2 | addxcc rd rs1 o2 | subcc rd rs1 o2 | subxcc rd rs1 o2 | andcc rd rs1 o2 | orcc rd rs1 o2
  | xorcc rd rs1 o2 | andncc rd rs1 o2 | orncc rd rs1 o2 | xnorcc rd rs1 o2 | taddcc rd rs1 o2 | tsubcc rd rs1 o2 =>
    exact fun s => writeRegCc_confines rd _ _ s
  | taddcctv rd rs1 o2 | tsubcctv rd rs1 o2 =>
    exact ite_confines (raise_confines _) fun s => writeRegCc_confines rd _ _ s
  | mulscc rd rs1 o2 => exact execMulscc_confines rd rs1 o2
  | wry rs1 o2 => exact next_confines fun _ => rfl
  | wrpsr rs1 o2 => exact ite_confines (raise_confines _) fun s => privileged_confines _ s
  | jmpl rd rs1 o2 => exact execJmpl_confines rd rs1 o2
  | rett rs1 o2 => exact exec_rett_confines rs1 o2
  | save rd rs1 o2 => exact execSave_confines rd rs1 o2
  | restore rd rs1 o2 => exact execRestore_confines rd rs1 o2
  | fmovs rd rs2 | fnegs rd rs2 | fabss rd rs2 => exact fun s => fpCopy_confines _ rd _ _ s
  | fsqrts rd rs2 | fsqrtd rd rs2 | fsqrtx rd rs2 | fitos rd rs2 | fdtos rd rs2 | fxtos rd rs2 | fitod rd rs2
  | fstod rd rs2 | fxtod rd rs2 | fitox rd rs2 | fstox rd rs2 | fdtox rd rs2 | fstoi rd rs2 | fdtoi rd rs2
  | fxtoi rd rs2 => exact fun s => fpCompute_confines _ _ rd _ _ s
  | fadds rd rs1 rs2 | faddd rd rs1 rs2 | faddx rd rs1 rs2 | fsubs rd rs1 rs2 | fsubd rd rs1 rs2 | fsubx rd rs1 rs2
  | fmuls rd rs1 rs2 | fmuld rd rs1 rs2 | fmulx rd rs1 rs2 | fdivs rd rs1 rs2 | fdivd rd rs1 rs2 | fdivx rd rs1 rs2 =>
    exact fun s => fpCompute_confines _ _ rd _ _ s
  | fcmps rs1 rs2 | fcmpd rs1 rs2 | fcmpx rs1 rs2 | fcmpes rs1 rs2 | fcmped rs1 rs2 | fcmpex rs1 rs2 =>
    exact fpCompare_confines _ _ rs1 rs2
  | fpop1 rd rs1 opf rs2 | fpop2 rd rs1 opf rs2 => exact fpUnimplemented_confines
  | cpop1 rd rs1 opc rs2 | cpop2 rd rs1 opc rs2 => exact cpop_confines _ rd rs1 opc rs2
  | ldsb rd rs1 o2 => exact fun s => loadReg_confines .byte _ _ rd sextByte s
  | ldsh rd rs1 o2 => exact fun s => loadReg_confines .half _ _ rd sextHalf s
  | ldub rd rs1 o2 => exact fun s => loadReg_confines .byte _ _ rd id s
  | lduh rd rs1 o2 => exact fun s => loadReg_confines .half _ _ rd id s
  | ld rd rs1 o2 => exact fun s => loadReg_confines .word _ _ rd id s
  | ldd rd rs1 o2 => exact fun s => loadPair_confines _ _ rd s
  | stb rd rs1 o2 => exact fun s => storeReg_confines .byte _ _ rd s
  | sth rd rs1 o2 | st rd rs1 o2 => exact fun s => storeReg_confines _ _ _ rd s
  | std rd rs1 o2 => exact fun s => storePair_confines _ _ rd s
  | ldstub rd rs1 o2 => exact fun s => loadStoreByte_confines _ _ rd s
  | swap rd rs1 o2 => exact fun s => swapWord_confines _ _ rd s
  | rdpsr rd | rdwim rd | rdtbr rd => exact fun s => privileged_confines _ s
  | wrwim rs1 o2 | wrtbr rs1 o2 => exact privileged_confines _
  | stdfq rs1 o2 | stdcq rs1 o2 => exact fun s => privileged_confines _ s
  | ldsba rd rs1 rs2 asi | ldsha rd rs1 rs2 asi | lduba rd rs1 rs2 asi | lduha rd rs1 rs2 asi | lda rd rs1 rs2 asi
  | ldda rd rs1 rs2 asi | stba rd rs1 rs2 asi | stha rd rs1 rs2 asi | sta rd rs1 rs2 asi | stda rd rs1 rs2 asi
  | ldstuba rd rs1 rs2 asi | swapa rd rs1 rs2 asi => exact fun s => privileged_confines _ s
  | ldf rd rs1 o2 =>
    exact fun s => fpMemory_confines _ _ (loadOne_confines fun v => fpEnds_guarded (putFreg_guarded rd v)) s
  | ldfsr rs1 o2 => exact fun s => fpMemory_confines _ _ (loadOne_confines fun v => fpEnds_guarded (putFsr_guarded v)) s
  | lddf rd rs1 o2 =>
    exact fun s => fpMemory_confines _ _ (loadTwo_confines (fpPairRefused_confines rd)
      fun hi lo => fpEnds_guarded (putFregPair_guarded rd hi lo)) s
  | stf rd rs1 o2 | stfsr rs1 o2 =>
    exact fun s => fpMemory_confines _ _ (storeOne_confines (fpEnds_guarded advance_guarded)) s
  | stdf rd rs1 o2 => exact fun s => fpMemory_confines _ _ (storeTwo_confines (fpEnds_guarded advance_guarded)) s
  | ldc rd rs1 o2 =>
    exact fun s => cpMemory_confines _ _ (loadOne_confines fun v => cpEnds_guarded (putCreg_guarded rd v)) s
  | ldcsr rs1 o2 => exact fun s => cpMemory_confines _ _ (loadOne_confines fun v => cpEnds_guarded (putCsr_guarded v)) s
  | lddc rd rs1 o2 =>
    exact fun s => cpMemory_confines _ _ (loadTwo_confines (cpPairRefused_confines rd)
      fun hi lo => cpEnds_guarded (putCregPair_guarded rd hi lo)) s
  | stc rd rs1 o2 | stcsr rs1 o2 =>
    exact fun s => cpMemory_confines _ _ (storeOne_confines (cpEnds_guarded advanceCp_guarded)) s
  | stdc rd rs1 o2 => exact fun s => cpMemory_confines _ _ (storeTwo_confines (cpEnds_guarded advanceCp_guarded)) s

/-! ### The step -/

theorem raiseError_confines (e : HwError) : Confines (raiseError e) := by
  intro s t hs h
  cases e with
  | imprecise => cases h; exact (raiseAt_confined _ _ _ s.drawn.drawn).of_before rfl
  | nonRestartablePrecise | registerFile | restartableLate | restartablePrecise | programFlow =>
    exact raise_confines _ s t hs h

theorem busFetch_guarded (s : State) : (busFetch s).state.guarded = s.guarded := by
  rcases busFetch_cases s with ⟨w, n, e⟩ | e <;> rw [e] <;> rfl

theorem annulledStep_confines : Confines annulledStep := by
  intro s t _ h
  obtain ⟨w, n, e⟩ := annulledStep_skips s
  cases e.symm.trans h
  exact .of_guarded rfl

theorem runWord_confines {run : Instr → State → Result} (hrun : ∀ i, Confines (run i)) (w : Word) :
    Confines (runWord run w) := by
  intro s t hs h
  unfold runWord at h
  split at h
  · exact (hrun _).after h hs rfl
  · exact (raise_confines _).after h hs rfl

/-- Every trap flushes (R434). -/
theorem flush_mem_raiseAt (a b : Word) (c : Trap) (s : State) : Event.flush ∈ (raiseAt a b c s).events := by
  have hc : Event.flush ∈ c.signals := by cases c <;> simp [Trap.signals]
  rcases raiseAt_cases a b c s with ⟨_, e⟩ | ⟨_, e⟩ <;> simp [e, hc]

/-- A late error is taken in a state with the guarded registers of the instruction's: where the instruction trapped, in
the place of that trap. -/
theorem lateError_confined {reported : Bool} {before t : State} {r : Result}
    (hr : ∀ u, r = .next u → Confined before u) (h : lateError reported before r = .next t) : Confined before t := by
  obtain ⟨u, e, rfl | ⟨_, rfl⟩ | ⟨hno, rfl⟩⟩ := lateError_next h
  · exact hr _ e
  · exact (raiseAt_confined _ _ _ (supersede before u)).of_before rfl
  · obtain ⟨v, hv, rfl | ⟨a, b, c, rfl⟩⟩ := hr u e
    · exact (raiseAt_confined _ _ _ u).of_before hv
    · exact absurd (flush_mem_raiseAt a b c v) hno

theorem instructionStep_confines {run : Instr → State → Result} (hrun : ∀ i, Confines (run i)) :
    Confines (instructionStep run) := by
  intro s t hs h
  have fetched := busFetch_guarded s
  unfold instructionStep at h
  cases e : busFetch s with
  | ok w u =>
    rw [e] at h fetched
    have late (reported : Bool) (hl : lateError reported { u with ir := w } (runWord run w u) = .next t) : Confined s t :=
      (lateError_confined (before := { u with ir := w })
        (fun v hv => (runWord_confines hrun w u v (user_of_guarded fetched hs) hv).of_before rfl) hl).of_before fetched
    dsimp only at h
    split at h
    · exact late true h
    · exact (raiseError_confines _).after h hs fetched
    · exact late false h
  | exception u =>
    rw [e] at h fetched
    dsimp only at h
    split at h
    · cases h
      exact (raiseAt_confined _ _ _ u).of_before fetched
    · exact (raiseError_confines _).after h hs fetched
    · exact (raise_confines _).after h hs fetched
  | reset u => rw [e] at h fetched; cases h; exact .of_guarded fetched

theorem executeStep_confines {run : Instr → State → Result} (hrun : ∀ i, Confines (run i)) :
    Confines (executeStep run) := by
  intro s t hs h
  unfold executeStep at h
  split at h
  · next hint =>
    have het : s.psr.et = true := by
      obtain ⟨hdue, _⟩ := Bool.and_eq_true_iff.1 hint
      exact ((interruptDue_iff s).1 hdue).1
    cases h
    rw [takeInterrupt, ← raiseAt_of_enabled het]
    exact raiseAt_confined _ _ _ s
  · split at h
    · exact annulledStep_confines s t hs h
    · exact instructionStep_confines hrun s t hs h

/-- A step after its sample confines user mode, or leaves reset mode. -/
theorem sampledStep_confined {run : Instr → State → Result} (hrun : ∀ i, Confines (run i)) {s t : State}
    (hs : s.psr.s = false) (h : sampledStep run s = .next t) : Confined s t ∨ s.mode = .reset ∧ t = s.leaveReset := by
  unfold sampledStep at h
  split at h
  · cases h
  split at h
  · cases h; exact .inl (.of_guarded rfl)
  split at h
  · cases h; exact .inl (.of_guarded rfl)
  split at h
  · cases h; exact .inl (.of_guarded rfl)
  split at h
  · next hm => cases h; exact .inr ⟨hm, rfl⟩
  · cases h; exact .inl (.of_guarded rfl)
  · exact .inl ((executeStep_confines hrun).after h hs rfl)

/-- Where a trap goes, taken with traps enabled or not: to its entry in the table, in supervisor mode with traps disabled,
PS keeping S (R351, R356). -/
theorem raiseAt_enters (a b : Word) (c : Trap) (s : State) :
    (raiseAt a b c s).wim = s.wim ∧ (raiseAt a b c s).tba = s.tba
    ∧ (raiseAt a b c s).psr = { s.psr with et := false, ps := s.psr.s, s := true, cwp := s.psr.cwp - 1#3 }
    ∧ (raiseAt a b c s).pc = s.tba ++ (raiseAt a b c s).tt ++ 0#4
    ∧ (raiseAt a b c s).npc = (raiseAt a b c s).pc + 4#32 := by
  rcases raiseAt_cases a b c s with ⟨_, e⟩ | ⟨_, e⟩ <;> simp [e]

/-- Settles O9: a state of user mode and what confines it, taken apart. -/
theorem userModeIsConfined : Obligations.UserModeIsConfined := by
  intro s t hs h
  rcases sampledStep_confined exec_confines (s := s.nextSample) hs h with ⟨u, hu, ht⟩ | ⟨hm, rfl⟩
  · obtain ⟨hwim, htba, hec, hef, hpil, hsup, hps, het⟩ := (guarded_eq_iff u s).1 hu
    rcases ht with rfl | ⟨a, b, c, rfl⟩
    · exact ⟨hwim, htba, hpil, hec, hef, fun _ => ⟨hps, het⟩, fun hon => by rw [hsup, hs] at hon; cases hon⟩
    · obtain ⟨hw, hb, hp, hpc, hnpc⟩ := raiseAt_enters a b c u
      rw [hw, hb, hp]
      exact ⟨hwim, htba, hpil, hec, hef, nofun, fun _ => ⟨rfl, .inl ⟨hsup.trans hs, hpc, hnpc⟩⟩⟩
  · exact ⟨rfl, rfl, rfl, rfl, rfl, nofun, fun _ => ⟨rfl, .inr ⟨hm, rfl, rfl, rfl, rfl⟩⟩⟩

end Sys2Proof.Machine
end

section
/-! PROOF. The trap table (O15, O16) and the recognition of interrupts (O18). -/

namespace Sys2Proof.Machine

/-! ### The trap table (R333, R353) -/

theorem trapInstruction_tt_toNat (n : BitVec 7) : (Trap.trapInstruction n).tt.toNat = 128 + n.toNat := by
  have hn : n.toNat < 2 ^ 7 := n.isLt
  rw [Trap.tt, BitVec.toNat_append, ← Nat.shiftLeft_add_eq_or_of_lt hn]
  rfl

theorem interrupt_tt_toNat (level : BitVec 4) : (Trap.interrupt level).tt.toNat = 16 + level.toNat := by
  have hl : level.toNat < 2 ^ 4 := level.isLt
  rw [Trap.tt, BitVec.toNat_append, ← Nat.shiftLeft_add_eq_or_of_lt hl]
  rfl

/-- Only the software traps have a type in the upper half of the table. -/
theorem tt_upper_iff (t : Trap) : 128 ≤ t.tt.toNat ↔ ∃ n, t = .trapInstruction n := by
  cases t with
  | hardware e => cases e <;> simp [Trap.tt, HwError.tt]
  | trapInstruction n => simp [trapInstruction_tt_toNat]
  | interrupt level =>
    have hl := level.isLt
    simp only [interrupt_tt_toNat, reduceCtorEq, exists_false, iff_false]
    omega
  | _ => simp [Trap.tt]

/-- The address of an entry of the table: TBA shifted left by 12, and 16 bytes for each type. -/
theorem entry_toNat (tba : BitVec 20) (tt : BitVec 8) : (tba ++ tt ++ 0#4).toNat = tba.toNat * 4096 + 16 * tt.toNat := by
  have htt : tt.toNat < 2 ^ 8 := tt.isLt
  rw [BitVec.toNat_append, BitVec.toNat_append, ← Nat.shiftLeft_add_eq_or_of_lt htt, BitVec.toNat_zero, Nat.or_zero,
    Nat.shiftLeft_eq, Nat.shiftLeft_eq]
  omega

/-- Entries of different types lie at different addresses. -/
theorem tt_eq_of_entry_eq {tba : BitVec 20} {tt tt' : BitVec 8} (h : tba ++ tt ++ 0#4 = tba ++ tt' ++ 0#4) :
    tt = tt' := by
  have h := congrArg BitVec.toNat h
  rw [entry_toNat, entry_toNat] at h
  exact BitVec.eq_of_toNat_eq (by omega)

/-- Settles O15. -/
theorem trapTypesAndPriorities : Obligations.TrapTypesAndPriorities := by
  refine ⟨?_, fun n => ⟨trapInstruction_tt_toNat n, rfl⟩, fun l => ⟨interrupt_tt_toNat l, rfl⟩, fun _ => rfl,
    ?_, ?_, ?_, ?_⟩
  all_goals decide

/-- Settles O16. -/
theorem handlerAddress : Obligations.HandlerAddress :=
  ⟨fun t s _ _ => ⟨entry_toNat s.tba t.tt, rfl, rfl⟩, tt_upper_iff, fun _ _ _ _ _ _ _ h => tt_eq_of_entry_eq h,
    fun _ => rfl⟩

/-! ### Interrupts (R352, R361) -/

/-- In execute mode, neither reset nor held, with nothing driven from outside, a step is `executeStep`. -/
theorem step_execute {s : State} (hrun : s.running) (hp : s.sample.unheld) : step s = executeStep exec s.atStep := by
  have hstep : step s = executeStep exec s.nextSample.settleHwerror :=
    sampledStep_execute (s := s.nextSample) hrun hp
  obtain ⟨_, _, _, _, hstill⟩ := hp
  rw [hstep, nextSample_of_still hstill]
  rfl

/-- A due interrupt is taken over an annulled instruction, and where no hardware error is reported. -/
theorem executeStep_interrupt {run : Instr → State → Result} {s : State} (hint : InterruptRequested s s.pins)
    (h : s.annulNext = true ∨ s.pins.errors = []) : executeStep run s = .next (takeInterrupt s.pins.irl s) := by
  have hdue : s.interruptDue = true := (interruptDue_iff s).2 hint
  have hopen : (s.annulNext || (topError s.pins.errors).isNone) = true := by
    rcases h with h | h
    · simp [h]
    · rw [h]; exact Bool.or_true _
  rw [executeStep, hdue, hopen]
  rfl

/-- With no interrupt due the annulled instruction or that at PC takes the step. -/
theorem executeStep_uninterrupted {run : Instr → State → Result} {s : State} (hint : ¬ InterruptRequested s s.pins) :
    executeStep run s = if s.annulNext then annulledStep s else instructionStep run s := by
  have hnot : s.interruptDue = false := by rwa [← interruptDue_iff, Bool.not_eq_true] at hint
  simp [executeStep, hnot]

/-- The condition of R361 fails with traps disabled, at level 0, and at a level that PIL masks. -/
theorem not_interruptRequested {s : State} {p : Pins}
    (h : s.psr.et = false ∨ p.irl = 0#4 ∨ (p.irl ≠ 15#4 ∧ p.irl ≤ s.psr.pil)) : ¬ InterruptRequested s p := by
  rintro ⟨het, hirl, hlevel⟩
  rcases h with h | h | ⟨h15, hle⟩
  · rw [het] at h; cases h
  · exact hirl h
  · exact hlevel.elim h15 (BitVec.not_lt.2 hle)

/-- The PC and nPC that an interrupt saves, in the terms of the statements. -/
theorem resumePair_eq (s : State) : s.resumePair
    = (if s.annulNext then s.npc else s.pc, if s.annulNext then s.npc + 4#32 else s.npc) := by
  unfold State.resumePair
  cases s.annulNext <;> rfl

/-- Settles O18: `executeStep` asks for an interrupt first. -/
theorem interruptRecognition : Obligations.InterruptRecognition := by
  refine ⟨fun s hrun hp hint hopen => ?_, fun s hrun hp h => ?_⟩
  · have hstep : step s = .next (takeInterrupt s.sample.irl s.atStep) :=
      (step_execute hrun hp).trans (executeStep_interrupt (s := s.atStep) hint hopen)
    obtain ⟨het, _⟩ := hint
    have htaken := raiseAt_visible (u := s.atStep) (s := s.settled) rfl s.atStep.resumePair.1 s.atStep.resumePair.2
      (.interrupt s.sample.irl)
    rw [raiseAt_of_enabled (s := s.atStep) het, raiseAt_of_enabled (s := s.settled) het, resumePair_eq] at htaken
    refine ⟨_, hstep, by simp [takeInterrupt, Trap.signals], rfl, .of_visible ?_⟩
    rw [takeInterrupt, resumePair_eq]
    exact htaken
  · have hstep : step s = executeStep exec s.nextSample.settleHwerror :=
      sampledStep_execute (s := s.nextSample) hrun hp
    exact hstep.trans (executeStep_uninterrupted (not_interruptRequested h))

end Sys2Proof.Machine
end

section
/-! PROOF. Hardware errors (O20): those taken before the instruction at PC, the late one after it or in the place of its
trap, and the loads that take bad data. -/

namespace Sys2Proof.Machine

/-! ### The error of the highest priority (R400) -/

theorem topError_eq_some {errors : List HwError} {e : HwError} (hmem : e ∈ errors) (hflow : e ≠ .programFlow)
    (hmin : ∀ e' ∈ errors, e.priority ≤ e'.priority) : topError errors = some e := by
  have absent (e' : HwError) (h : e'.priority < e.priority) : e' ∉ errors := fun h' =>
    Nat.not_lt.2 (hmin e' h') h
  cases e with
  | imprecise => simp [topError, reportable, hmem]
  | nonRestartablePrecise => simp [topError, reportable, hmem, absent .imprecise (by decide)]
  | registerFile =>
    simp [topError, reportable, hmem, absent .imprecise (by decide), absent .nonRestartablePrecise (by decide)]
  | restartableLate =>
    simp [topError, reportable, hmem, absent .imprecise (by decide), absent .nonRestartablePrecise (by decide),
      absent .registerFile (by decide)]
  | restartablePrecise =>
    simp [topError, reportable, hmem, absent .imprecise (by decide), absent .nonRestartablePrecise (by decide),
      absent .registerFile (by decide), absent .restartableLate (by decide)]
  | programFlow => exact absurd rfl hflow

/-- Wrong parity of the fetched word has the lowest of the priorities reported, so it changes nothing (R400, R403). -/
theorem topError_instructionErrors {s : State} {e : HwError} (hmem : e ∈ s.pins.errors) (hflow : e ≠ .programFlow)
    (hmin : ∀ e' ∈ s.pins.errors, e.priority ≤ e'.priority) : topError s.instructionErrors = some e := by
  have hlow : e.priority ≤ HwError.restartablePrecise.priority := by revert hflow; cases e <;> decide
  unfold State.instructionErrors
  split
  · exact topError_eq_some (List.mem_cons_of_mem _ hmem) hflow (List.forall_mem_cons.2 ⟨hlow, hmin⟩)
  · exact topError_eq_some hmem hflow hmin

/-- A reported hardware error comes before an interrupt (R333), so the instruction at PC takes the step. -/
theorem step_reported {s : State} {e : HwError} (hrun : s.running) (hann : s.annulNext = false) (hp : s.sample.unheld)
    (htop : topError s.sample.errors = some e) : step s = instructionStep exec s.atStep := by
  have hann' : s.atStep.annulNext = false := hann
  have htop' : topError s.atStep.pins.errors = some e := htop
  rw [step_execute hrun hp, executeStep, hann', htop']
  simp

/-! ### Errors taken before the instruction (R399) -/

/-- However the fetch is answered, an error other than the late one is raised in a state like `s` after it. -/
theorem instructionStep_raisesError {run : Instr → State → Result} {s : State} {e : HwError}
    (hlate : e ≠ .restartableLate) (htop : topError s.pins.errors = some e)
    (htop' : topError s.instructionErrors = some e) :
    ∃ u, u.visible = s.afterFetch.visible ∧ instructionStep run s = raiseError e u := by
  unfold instructionStep
  rcases busFetch_cases s with ⟨w, n, h⟩ | h <;> rw [h]
  · have hu : topError { s.afterFetch with draws := n }.instructionErrors = some e := htop'
    refine ⟨{ s.afterFetch with draws := n }, rfl, ?_⟩
    simp only [hu]
  · have hu : topError s.afterFetch.pins.errors = some e := htop
    refine ⟨s.afterFetch, rfl, ?_⟩
    simp only [hu]

/-- The pair saved is that of the state but for the imprecise error (R399). -/
theorem raiseError_eq (e : HwError) (s : State) : ∃ a b u, raiseError e s = .next (raiseAt a b (.hardware e) u)
    ∧ u.visible = s.visible ∧ (e ≠ .imprecise → a = s.pc ∧ b = s.npc) := by
  cases e with
  | imprecise => exact ⟨_, _, s.drawn.drawn, rfl, rfl, fun h => absurd rfl h⟩
  | nonRestartablePrecise | registerFile | restartableLate | restartablePrecise | programFlow =>
    exact ⟨_, _, s, rfl, rfl, fun _ => ⟨rfl, rfl⟩⟩

/-- The pair a trap saves shows in the register file only. -/
theorem raiseAt_pair (a b c d : Word) (t : Trap) (s : State) :
    raiseAt a b t s = { raiseAt c d t s with regs := (raiseAt a b t s).regs } := by
  unfold raiseAt
  cases s.psr.et <;> rfl

theorem raiseAt_regs (a b : Word) (t : Trap) (s : State) : (raiseAt a b t s).regs = (trapEntryAt a b t s).regs := by
  rcases raiseAt_cases a b t s with ⟨_, e⟩ | ⟨_, e⟩ <;> simp [e]

/-- A hardware error trap asserts HWERROR (R404). -/
theorem raiseAt_hardware (a b : Word) (e : HwError) (s : State) :
    Event.hwerror ∈ (raiseAt a b (.hardware e) s).events ∧ (raiseAt a b (.hardware e) s).hwerror = true := by
  rcases raiseAt_cases a b (.hardware e) s with ⟨_, h⟩ | ⟨_, h⟩ <;> simp [h, Trap.signals, Trap.isHardware]

/-! ### The late error (R334, R399) -/

/-- The late error is the one of the highest priority that is reported. -/
theorem lateError_on_top {errors : List HwError} (hmem : HwError.restartableLate ∈ errors)
    (hmin : ∀ e ∈ errors, 4 ≤ e.priority) : topError errors = some .restartableLate :=
  topError_eq_some hmem (by decide) hmin

section Late

variable {reported : Bool} {before u : State}

/-- After an instruction that did not trap the late error saves the pair of the next one. -/
theorem lateError_after (hmode : u.mode ≠ .reset) (h : reported = true ∨ u.badLoad = true)
    (hflush : Event.flush ∉ u.events) : lateError reported before (.next u)
      = .next (raiseAt u.resumePair.1 u.resumePair.2 (.hardware .restartableLate) u) := by
  have hdue : (reported || u.badLoad) = true := by simpa using h
  simp [lateError, hmode, hdue, hflush]

/-- The late error is taken in the place of the trap of its instruction. -/
theorem lateError_instead (hmode : u.mode ≠ .reset) (h : reported = true ∨ u.badLoad = true)
    (hflush : Event.flush ∈ u.events) : lateError reported before (.next u)
      = .next (raiseAt before.npc (before.npc + 4#32) (.hardware .restartableLate) (supersede before u)) := by
  have hdue : (reported || u.badLoad) = true := by simpa using h
  simp [lateError, hmode, hdue, hflush]

end Late

/-- A step in which the late error is due is that of its instruction, with the late error after it. -/
theorem step_late {s u : State} (hrun : s.running) (hann : s.annulNext = false) (hp : s.sample.unheld)
    (hk : s.readable s.fetchAsi s.pc) (hset : s.fetchSettled = true) (hmexc : s.sample.fetchMexc = false)
    (hu : runWord exec s.wordAtPc s.started = .next u) (hdue : LateErrorDue s u) :
    ∃ reported, (reported = true ∨ u.badLoad = true) ∧ step s = lateError reported s.started (.next u) := by
  have hfetch : busFetch s.atStep = .ok s.wordAtPc s.atStep.afterFetch := busFetch_storage hmexc hk hset
  have hword : runWord exec s.wordAtPc s.atStep.afterFetch = .next u := hu
  rcases hdue with ⟨hmem, hmin⟩ | ⟨hnone, hpar, hint, hbad⟩
  · have htop : topError s.atStep.afterFetch.instructionErrors = some .restartableLate :=
      topError_instructionErrors (s := s.atStep.afterFetch) hmem (by decide) hmin
    refine ⟨true, .inl rfl, ?_⟩
    rw [step_reported hrun hann hp (lateError_on_top hmem hmin), instructionStep, hfetch]
    simp only [htop, hword]
    rfl
  · have herrors : s.atStep.afterFetch.instructionErrors = [] := (if_neg (Bool.not_eq_true _ ▸ hpar)).trans hnone
    have htop : topError s.atStep.afterFetch.instructionErrors = none := (congrArg topError herrors).trans rfl
    refine ⟨false, .inr hbad, ?_⟩
    rw [step_instruction hrun hann hp hint, instructionStep, hfetch]
    simp only [htop, hword]
    rfl

/-! ### Loads that take bad data (R399, R403) -/

/-- The environment lets every access of the step through, and what a load takes is bad. -/
def State.loadsBadly (s : State) : Prop := (∀ x ∈ s.pins.dataAnswers, x = BusAnswer.ready) ∧ s.loadSuspect = true

theorem nextAnswer_of_ready {s : State} (h : ∀ x ∈ s.pins.dataAnswers, x = BusAnswer.ready) : s.nextAnswer = .ready := by
  unfold State.nextAnswer
  cases hd : s.pins.dataAnswers with
  | nil => rfl
  | cons x xs => exact h x (by simp [hd])

section BadLoads

variable {z : AccessSize} {asi : Asi} {a : Word} {s : State}

/-- A read of storage takes some value in the place of the bad data, and changes the record only. -/
theorem busRead_bad (hb : s.loadsBadly) (hk : s.readable asi a) (locked atomic : Bool) :
    ∃ v r, busRead asi a z locked atomic s = .ok v (s.withRecord r) ∧ r.badLoad = true ∧ (s.withRecord r).loadsBadly := by
  obtain ⟨hready, hbad⟩ := hb
  obtain ⟨r, hr⟩ : ∃ r, r =
      { s.popAnswer.emit (readCycle asi a z locked atomic) with draws := s.draws + 1, badLoad := true } := ⟨_, rfl⟩
  have hacc : Accessed s r := ⟨_, _, true, fun h => absurd (h.symm.trans hbad) nofun, hr⟩
  have hsame : s.withRecord r = r := withRecord_of_visible hacc.visible
  obtain ⟨hpins, _⟩ := hacc.answered
  refine ⟨fromLanes z a (Config.freeWord s.draws), r, ?_, by simp [hr], ?_⟩
  · rw [hsame, hr, busRead, nextAnswer_of_ready hready]
    rcases hk with hk | hk <;> simp [hk, answerRead, takeData, loadSuspect_seen, hbad, readCycle, State.drawn]
  · rw [hsame, State.loadsBadly, hpins]
    exact ⟨fun x hx => hready x (List.mem_of_mem_tail hx), by rw [hr]; exact hbad⟩

theorem loadOne_bad (hb : s.loadsBadly) (hk : s.readable asi a) (finish : Word → State → State) :
    ∃ v r, loadOne z asi a finish s = .next (finish v (s.withRecord r)) ∧ r.badLoad = true := by
  obtain ⟨v, r, e, hr, _⟩ := busRead_bad (z := z) hb hk false false
  exact ⟨v, r, by rw [loadOne, e, andThen_ok], hr⟩

theorem loadTwo_bad (hb : s.loadsBadly) (hk : s.readable asi a) (hk' : s.readable asi (a + 4#32))
    (onExc : State → Result) (finish : Word → Word → State → State) :
    ∃ hi lo r, loadTwo asi a onExc finish s = .next (finish hi lo (s.withRecord r)) ∧ r.badLoad = true := by
  obtain ⟨hi, r, e, _, hb'⟩ := busRead_bad (z := .double) hb hk true false
  obtain ⟨lo, r', e', hr', _⟩ := busRead_bad (z := .double) hb' hk' true false
  exact ⟨hi, lo, r', by rw [loadTwo, e, andThen_ok, e', andThen_ok]; rfl, hr'⟩

/-- An atomic that storage takes stores its bytes all the same. -/
theorem loadStore_bad (hb : s.loadsBadly) (hk : s.writable asi a) (v : Word) (finish : Word → State → State) :
    ∃ old r, loadStore z asi a v finish s = .next (finish old ((s.storing asi a (storedBytes z v)).withRecord r))
      ∧ r.badLoad = true := by
  obtain ⟨old, r, e, hr, hb'⟩ := busRead_bad (z := z) hb (.inl hk) true true
  obtain ⟨u, hu⟩ : ∃ u, u = ((s.withRecord r).popAnswer.emit (writeCycle asi a z v true)).storeBytes asi a z v := ⟨_, rfl⟩
  have hwrite : busWrite asi a z v true (s.withRecord r) = .ok 0#32 u := hu ▸ busWrite_ram (nextAnswer_of_ready hb'.1) hk
  have hvisible : u.visible = (s.storing asi a (storedBytes z v)).visible := by
    rw [hu, storeBytes_visible, storing_visible]
    rfl
  refine ⟨old, u, ?_, by rw [hu]; exact hr⟩
  rw [loadStore, e, andThen_ok, hwrite, andThen_ok, withRecord_of_visible hvisible]

/-- An integer load writes some value to r[rd]. -/
theorem loadsBadReg_of {i : Instr} {rd : Reg} {f : Word → Word} (hb : s.loadsBadly) (hk : s.readable asi a)
    (ha : aligned z a = true) (hi : exec i s = loadReg z asi a (fun v => putReg rd (f v)) s) : LoadsBadReg i s rd := by
  obtain ⟨v, r, e, hr⟩ := loadOne_bad (z := z) hb hk (fun v => putReg rd (f v))
  obtain ⟨t, et, hregs, hagree⟩ := putReg_endsWith (s := s) (psr := s.psr) (y := s.y) (u := s.withRecord r) rd (f v) rfl
  cases et
  exact ⟨_, hi.trans ((whenAligned_of_aligned ha _ s).trans e), by simp [putReg, State.withRecord, hr], f v, hregs,
    hagree⟩

/-- LDD and LDDA write some values to the pair. -/
theorem takesBad_pair {i : Instr} {rd : Reg} (hb : s.loadsBadly) (hk : s.readable asi a) (hk' : s.readable asi (a + 4#32))
    (ha : a.extractLsb' 0 3 = 0#3) (hi : exec i s = loadPair asi a rd s) :
    TakesBad i s fun t => ∃ hi lo, WritesPair t.regs s s.psr.cwp rd hi lo ∧ Agree t { s.ended with regs := t.regs } := by
  obtain ⟨hi', lo, r, e, hr⟩ := loadTwo_bad hb hk hk' (raise .dataAccess) (putPair rd)
  obtain ⟨t, et, hregs, hagree⟩ := putPair_endsWithPair (s := s) (u := s.withRecord r) rd hi' lo rfl
  cases et
  exact ⟨_, hi.trans ((whenAligned_of_aligned (aligned_double_of ha) _ s).trans e),
    by simp [putPair, State.withRecord, hr], hi', lo, hregs, hagree⟩

/-- An atomic writes some value to r[rd] and stores its bytes. -/
theorem swapsBad_of {i : Instr} {rd : Reg} {v : Word} (hb : s.loadsBadly) (hk : s.writable asi a)
    (ha : aligned z a = true) (hi : exec i s = loadStore z asi a v (putReg rd) s) :
    SwapsBad i s rd asi a (storedBytes z v) := by
  obtain ⟨old, r, e, hr⟩ := loadStore_bad (z := z) hb hk v (putReg rd)
  obtain ⟨t, et, hregs, hstores, hagree⟩ := putReg_endsSwapping (s := s) (asi := asi)
    (u := (s.storing asi a (storedBytes z v)).withRecord r) rd old (distinctCells_of_aligned _ _ ha _) rfl
  cases et
  exact ⟨_, hi.trans e, by simp [putReg, State.withRecord, hr], old, hregs, hstores, hagree⟩

theorem aligned_half_of_bit (h : a.getLsbD 0 = false) : aligned .half a = true := by
  refine aligned_half_of (BitVec.eq_of_getLsbD_eq fun i hi => ?_)
  obtain rfl : i = 0 := Nat.lt_one_iff.1 hi
  simpa using h

/-- The integer loads and atomics of one address space, given by the access each of them makes. -/
theorem loadsBad_of {rd : Reg} {ldsb ldub ldsh lduh ld ldd ldstub swap : Instr} (hb : s.loadsBadly)
    (hldsb : exec ldsb s = loadReg .byte asi a (fun v => putReg rd (sextByte v)) s)
    (hldub : exec ldub s = loadReg .byte asi a (putReg rd) s)
    (hldsh : exec ldsh s = loadReg .half asi a (fun v => putReg rd (sextHalf v)) s)
    (hlduh : exec lduh s = loadReg .half asi a (putReg rd) s)
    (hld : exec ld s = loadReg .word asi a (putReg rd) s)
    (hldd : exec ldd s = loadPair asi a rd s)
    (hldstub : exec ldstub s = loadStoreByte asi a rd s)
    (hswap : exec swap s = swapWord asi a rd s) : LoadsBad s asi a rd ldsb ldub ldsh lduh ld ldd ldstub swap := by
  refine ⟨fun hk => ⟨?_, ?_, fun ha => ⟨?_, ?_⟩, fun ha => ?_, fun ha hk' => ?_⟩, fun hk => ⟨?_, fun ha => ?_⟩⟩
  · exact loadsBadReg_of hb hk (by rfl) hldsb
  · exact loadsBadReg_of (f := id) hb hk (by rfl) hldub
  · exact loadsBadReg_of hb hk (aligned_half_of_bit ha) hldsh
  · exact loadsBadReg_of (f := id) hb hk (aligned_half_of_bit ha) hlduh
  · exact loadsBadReg_of (f := id) hb hk (aligned_word_of ha) hld
  · exact takesBad_pair hb hk hk' ha hldd
  · exact swapsBad_of (z := .byte) hb hk (by rfl) hldstub
  · exact swapsBad_of (z := .word) hb hk (aligned_word_of ha)
      (hswap.trans (whenAligned_of_aligned (aligned_word_of ha) _ s))

/-! ### Loads of a ready unit -/

/-- A load of a ready FPU ends as the FPU ends it. -/
theorem fpMemory_ends (hr : s.fpReady) (ha : aligned z a = true) {access : State → Result} {data : List Word}
    {ready : State → State} {r : State}
    (e : access (s.emit (.launchFp s.ir s.pc)) = .next (fpEnds data ready (s.withRecord r))) :
    fpMemory z a access s = .next (ready (s.withRecord r)) := by
  obtain ⟨hef, hfp, hpend, hmode⟩ := hr
  rw [fpMemory_launches hef hfp hpend ha, e, fpEnds_ready (s := s.withRecord r) hmode]

theorem cpMemory_ends (hr : s.cpReady) (ha : aligned z a = true) {access : State → Result} {data : List Word}
    {ready : State → State} {r : State}
    (e : access (s.emit (.launchCp s.ir s.pc)) = .next (cpEnds data ready (s.withRecord r))) :
    cpMemory z a access s = .next (ready (s.withRecord r)) := by
  obtain ⟨hec, hcp, hpend, hmode⟩ := hr
  rw [cpMemory_launches hec hcp hpend ha, e, cpEnds_ready (s := s.withRecord r) hmode]

variable {rd rs1 : Reg} {o2 : Operand2}

/-- LDF and LDFSR with bad data. -/
theorem fpWord_bad (hb : s.loadsBadly) (hk : s.readable s.dataAsi (effectiveAddress rs1 o2 s))
    (ha : (effectiveAddress rs1 o2 s).extractLsb' 0 2 = 0#2) (hr : s.fpReady) :
    TakesBad (.ldf rd rs1 o2) s (fun t => ∃ v, WritesF t s [rd] (fun _ => v)
      ∧ Agree t { s.ended with fpu := { s.fpu with f := t.fpu.f } })
    ∧ TakesBad (.ldfsr rs1 o2) s (fun t => ∃ v, Agree t { s.ended with fpu := { s.fpu with
        fsr := Config.fsrLoaded (fsrWord s.fpu) v, fcc := codeOf Config.fccPlace v } }) := by
  have load (put : Word → State → State) := loadOne_bad (s := s.emit (.launchFp s.ir s.pc)) (z := .word) hb hk
    fun v => fpEnds [v] (put v)
  refine ⟨?_, ?_⟩
  · obtain ⟨v, r, e, hbad⟩ := load (putFreg rd)
    exact ⟨_, fpMemory_ends hr (aligned_word_of ha) e, hbad, v, putFreg_writesF rd v (s.withRecord r), .of_record rfl⟩
  · obtain ⟨v, r, e, hbad⟩ := load putFsr
    exact ⟨_, fpMemory_ends hr (aligned_word_of ha) e, hbad, v, .of_record rfl⟩

/-- LDC and LDCSR with bad data. -/
theorem cpWord_bad (hb : s.loadsBadly) (hk : s.readable s.dataAsi (effectiveAddress rs1 o2 s))
    (ha : (effectiveAddress rs1 o2 s).extractLsb' 0 2 = 0#2) (hr : s.cpReady) :
    TakesBad (.ldc rd rs1 o2) s (fun t => ∃ v, WritesC t s [rd] (fun _ => v)
      ∧ Agree t { s.ended with cpCompare := s.cpCompare, cp := { s.cp with c := t.cp.c } })
    ∧ TakesBad (.ldcsr rs1 o2) s (fun t => ∃ v, Agree t { s.ended with
        cpCompare := s.cpCompare, cp := { s.cp with csr := v, ccc := codeOf Config.cccPlace v } }) := by
  have load (put : Word → State → State) := loadOne_bad (s := s.emit (.launchCp s.ir s.pc)) (z := .word) hb hk
    fun v => cpEnds [v] (put v)
  refine ⟨?_, ?_⟩
  · obtain ⟨v, r, e, hbad⟩ := load (putCreg rd)
    exact ⟨_, cpMemory_ends hr (aligned_word_of ha) e, hbad, v, putCreg_writesC rd v (s.withRecord r), .of_record rfl⟩
  · obtain ⟨v, r, e, hbad⟩ := load putCsr
    exact ⟨_, cpMemory_ends hr (aligned_word_of ha) e, hbad, v, .of_record rfl⟩

/-- LDDF with bad data. -/
theorem lddf_bad (hb : s.loadsBadly) (hk : s.readable s.dataAsi (effectiveAddress rs1 o2 s))
    (hk' : s.readable s.dataAsi (effectiveAddress rs1 o2 s + 4#32))
    (ha : (effectiveAddress rs1 o2 s).extractLsb' 0 3 = 0#3) (hr : s.fpReady) :
    TakesBad (.lddf rd rs1 o2) s (fun t => (∀ r, r ∉ doubleGroup rd → t.freg r = s.freg r)
      ∧ Agree t { s.ended with fpu := { s.fpu with f := t.fpu.f } }) := by
  obtain ⟨hi, lo, r, e, hbad⟩ := loadTwo_bad (s := s.emit (.launchFp s.ir s.pc)) hb hk hk' (fpPairRefused rd)
    fun hi lo => fpEnds [hi, lo] (putFregPair rd hi lo)
  refine ⟨_, fpMemory_ends hr (aligned_double_of ha) e, hbad, fun x hx => ?_, .of_record rfl⟩
  rw [putFregPair_writesF rd hi lo (s.withRecord r) x, if_neg hx]
  rfl

/-- LDDC with bad data. -/
theorem lddc_bad (hb : s.loadsBadly) (hk : s.readable s.dataAsi (effectiveAddress rs1 o2 s))
    (hk' : s.readable s.dataAsi (effectiveAddress rs1 o2 s + 4#32))
    (ha : (effectiveAddress rs1 o2 s).extractLsb' 0 3 = 0#3) (hr : s.cpReady) :
    TakesBad (.lddc rd rs1 o2) s (fun t => (∀ r, r ∉ doubleGroup rd → t.creg r = s.creg r)
      ∧ Agree t { s.ended with cpCompare := s.cpCompare, cp := { s.cp with c := t.cp.c } }) := by
  obtain ⟨hi, lo, r, e, hbad⟩ := loadTwo_bad (s := s.emit (.launchCp s.ir s.pc)) hb hk hk' (cpPairRefused rd)
    fun hi lo => cpEnds [hi, lo] (putCregPair rd hi lo)
  refine ⟨_, cpMemory_ends hr (aligned_double_of ha) e, hbad, fun x hx => ?_, .of_record rfl⟩
  rw [putCregPair_writesC rd hi lo (s.withRecord r) x, if_neg hx]
  rfl

end BadLoads

/-! ### The statement -/

/-- The error of the highest priority is taken before anything of the instruction at PC. -/
theorem step_raisesError {s : State} {e : HwError} (hrun : s.running) (hann : s.annulNext = false) (hp : s.sample.unheld)
    (hmem : e ∈ s.sample.errors) (hflow : e ≠ .programFlow) (hlate : e ≠ .restartableLate)
    (hmin : ∀ e' ∈ s.sample.errors, e.priority ≤ e'.priority) :
    ∃ a b u, step s = .next (raiseAt a b (.hardware e) u) ∧ u.visible = s.fetched.visible
      ∧ (e ≠ .imprecise → a = s.pc ∧ b = s.npc) := by
  have htop : topError s.sample.errors = some e := topError_eq_some hmem hflow hmin
  have htop' : topError s.atStep.instructionErrors = some e :=
    topError_instructionErrors (s := s.atStep) hmem hflow hmin
  obtain ⟨v, hv, hstep⟩ := instructionStep_raisesError (run := exec) (s := s.atStep) hlate htop htop'
  obtain ⟨a, b, u, hraise, hu, hpair⟩ := raiseError_eq e v
  have hpc : v.pc = s.pc := (congrArg State.pc hv :)
  have hnpc : v.npc = s.npc := (congrArg State.npc hv :)
  rw [hpc, hnpc] at hpair
  exact ⟨a, b, u, (step_reported hrun hann hp htop).trans (hstep.trans hraise), hu.trans hv, hpair⟩

/-- Settles O20: an error taken before its instruction, the late error after it or in the place of its trap, the late
error in the place of a refused fetch, and the loads that take bad data. -/
theorem hardwareErrors : Obligations.HardwareErrors := by
  refine ⟨fun s e hrun hann hp hmem hflow hlate hmin => ?before,
    fun s u hrun hann hp hk hset hmexc hu hmode hdue => ?after,
    fun s hrun hann hp hmem hmin hfetch => ?refused, fun s rd rs1 rs2 o2 asi hready hbad => ?loads⟩
  case before =>
    obtain ⟨a, b, u, hstep, hu, hpair⟩ := step_raisesError hrun hann hp hmem hflow hlate hmin
    have hvisible := raiseAt_visible hu a b (.hardware e)
    obtain ⟨hevent, hlevel⟩ := raiseAt_hardware a b e u
    refine ⟨_, hstep, hevent, hlevel, fun hne => ?_, ?_, fun j h17 h18 => ?_⟩
    · obtain ⟨rfl, rfl⟩ := hpair hne
      exact .of_visible hvisible
    · rw [regs_of_visible hvisible, ← raiseAt_pair]
      exact .of_visible hvisible
    · rw [regs_of_visible hvisible, raiseAt_regs, trapEntryAt_place]
      exact (if_neg h17).trans (if_neg h18)
  case after =>
    obtain ⟨reported, hr, hstep⟩ := step_late hrun hann hp hk hset hmexc hu hdue
    refine ⟨fun hflush => ?_, fun hflush => ?_⟩
    · rw [hstep, lateError_after hmode hr hflush, resumePair_eq]
    · have hleft : (supersede s.started u).visible = { s.started with
          mem := u.mem, fpu := { s.fpu with f := u.fpu.f }, cp := { s.cp with c := u.cp.c } }.visible := rfl
      exact ⟨_, hstep.trans (lateError_instead hmode hr hflush), .of_visible (raiseAt_visible hleft _ _ _)⟩
  case refused =>
    have hrefused : busFetch s.atStep = .exception s.atStep.afterFetch := busFetch_refused hfetch
    have htop := lateError_on_top hmem hmin
    have htop' : topError s.atStep.afterFetch.pins.errors = some .restartableLate := htop
    have hstep : step s = .next (raiseAt s.npc (s.npc + 4#32) (.hardware .restartableLate) s.atStep.afterFetch) := by
      rw [step_reported hrun hann hp htop, instructionStep, hrefused]
      simp only [htop']
      rfl
    have hleft : s.atStep.afterFetch.visible = s.fetched.visible := rfl
    exact ⟨_, hstep, .of_visible (raiseAt_visible hleft _ _ _)⟩
  case loads =>
    have hb : s.loadsBadly := ⟨hready, hbad⟩
    refine ⟨⟨loadsBad_of hb rfl rfl rfl rfl rfl rfl rfl rfl, fun hk ha => ⟨fpWord_bad hb hk ha, cpWord_bad hb hk ha⟩,
      fun hk hk' ha => ⟨lddf_bad hb hk hk' ha, lddc_bad hb hk hk' ha⟩⟩, fun hs => ?_⟩
    have supervisor (k : State → Result) := privileged_of_supervisor hs k
    exact loadsBad_of hb (supervisor _) (supervisor _) (supervisor _) (supervisor _) (supervisor _) (supervisor _)
      (supervisor _) (supervisor _)

end Sys2Proof.Machine
end

section
/-! PROOF. The program flow check under program flow control (O29). -/

namespace Sys2Proof.Machine

/-! ### The word of PFCHECK (R393) -/

/-- PFCHECK is a SETHI to r[0] with 0b011111 above the signature. -/
theorem encode_pfcheck (sig : BitVec 16) : encode (.pfcheck sig) = 0x011F0000#32 ||| sig.setWidth 32 := by
  apply BitVec.eq_of_toNat_eq
  have hsig : sig.toNat % 2 ^ 32 = sig.toNat := Nat.mod_eq_of_lt (by omega)
  simp only [encode, format2, BitVec.toNat_append, BitVec.toNat_or, BitVec.toNat_setWidth, hsig, ← Nat.or_assoc]
  rfl

theorem decode_pfcheck (sig : BitVec 16) : decode (0x011F0000#32 ||| sig.setWidth 32) = .ok (.pfcheck sig) :=
  encode_pfcheck sig ▸ decode_encode (.pfcheck sig) rfl

/-! ### The check (R391, R393, R394) -/

section Check

variable {s : State} {sig : BitVec 16}

/-- A check that is disabled or finds the expected signature starts the next one. -/
theorem exec_pfcheck_passes (hflow : s.cfg.flowEnabled = true)
    (h : s.pfcCheckEnabled = false ∨ signature s.pfcSum = sig) :
    exec (.pfcheck sig) s = .next (s.restartCheck true) := by
  have hpass : ¬ (s.pfcCheckEnabled && signature s.pfcSum != sig) = true := by
    rcases h with h | h <;> simp [h]
  exact (if_pos hflow).trans (if_neg hpass)

theorem restartCheck_endsAs (s : State) (enabled : Bool) :
    EndsAs (.next (s.restartCheck enabled)) { s.ended with pfcSum := 0#32, pfcCheckEnabled := enabled } :=
  ⟨_, rfl, .of_visible rfl⟩

/-- An enabled check that finds another signature is a program flow error. -/
theorem exec_pfcheck_fails (hflow : s.cfg.flowEnabled = true) (henabled : s.pfcCheckEnabled = true)
    (h : signature s.pfcSum ≠ sig) : exec (.pfcheck sig) s = raise (.hardware .programFlow) s := by
  have hfail : (s.pfcCheckEnabled && signature s.pfcSum != sig) = true := by simp [henabled, h]
  exact (if_pos hflow).trans (if_pos hfail)

end Check

/-- Under program flow control every trap, taken with traps enabled or not, disables the next check (R394). -/
theorem raiseAt_pfcCheckEnabled {s : State} (hflow : s.cfg.flowEnabled = true) (a b : Word) (t : Trap) :
    (raiseAt a b t s).pfcCheckEnabled = false := by
  rcases raiseAt_cases a b t s with ⟨_, e⟩ | ⟨_, e⟩ <;> simp [e, hflow]

/-- Settles O29: the check passes or is a hardware error trap, and the word is the one PFCHECK encodes to. -/
theorem programFlowCheck : Obligations.ProgramFlowCheck := by
  refine fun s sig hflow => ⟨fun hpass => ?passes, fun ⟨henabled, hne⟩ => ?fails, decode_pfcheck sig⟩
  case passes =>
    rw [exec_pfcheck_passes hflow hpass]
    exact restartCheck_endsAs s true
  case fails =>
    have hexec := exec_pfcheck_fails hflow henabled hne
    exact ⟨hexec, _, hexec, raiseAt_tt .., (raiseAt_hardware ..).1, raiseAt_pfcCheckEnabled hflow .., raiseAt_reg17 ..⟩

end Sys2Proof.Machine
end

section
/-! PROOF. RESET, asserted and deasserted (O11). -/

namespace Sys2Proof.Machine

/-! ### A step into reset mode and a step out of it (R450) -/

/-- RESET asserted comes before HALT, the holds and whatever the mode would do. -/
theorem sampledStep_reset {run : Instr → State → Result} {s : State} (hf : s.cfg.fpsyn = false)
    (hfault : s.pins.resetFault = false) (hr : s.pins.reset = true) : sampledStep run s = .next s.enterReset := by
  simp [sampledStep, hf, hfault, hr]

/-- RESET deasserted, and no hold: reset mode is left. -/
theorem sampledStep_leaveReset {run : Instr → State → Result} {s : State} (hf : s.cfg.fpsyn = false)
    (hp : s.pins.unheld) (hm : s.mode = .reset) : sampledStep run s = .next s.leaveReset := by
  obtain ⟨hreset, hfault, hhalt, hhold, _⟩ := hp
  simp [sampledStep, hf, hfault, hreset, hhalt, hhold, hm]

/-- Entering reset mode looks at nothing of the model's own record. -/
theorem enterReset_visible {t s : State} (h : t.visible = s.visible) : t.enterReset.visible = s.enterReset.visible :=
  congrArg State.enterReset h

/-- Leaving reset mode looks at nothing of the model's own record. -/
theorem leaveReset_visible {t s : State} (h : t.visible = s.visible) : t.leaveReset.visible = s.leaveReset.visible :=
  congrArg State.leaveReset h

/-- Settles O11: the sample changes nothing that can be seen, and the two states named are those of `enterReset` and
`leaveReset`. -/
theorem resetSequence : Obligations.ResetSequence := by
  refine ⟨fun s hf hfault hstill hr => ?asserted, fun s hf hp hm => ?deasserted⟩
  case asserted =>
    have hstep : step s = .next s.nextSample.enterReset := sampledStep_reset (s := s.nextSample) hf hfault hr
    exact ⟨_, hstep, .of_visible (enterReset_visible (nextSample_visible hstill))⟩
  case deasserted =>
    have hstep : step s = .next s.nextSample.leaveReset := sampledStep_leaveReset (s := s.nextSample) hf hp hm
    obtain ⟨_, _, _, _, hstill⟩ := hp
    exact ⟨_, hstep, .of_visible (leaveReset_visible (nextSample_visible hstill))⟩

end Sys2Proof.Machine
end
